-- ==== Sys2Proof/Word.lean ====
section
/-! DEFINITION. The word types of the block: register words, bus addresses and transaction words. -/

namespace Sys2Proof

/-- A register value, a bus address or bus data: 32 bits (R7, R9 of spec/00_scope.md).
The signed 32-bit fields of the RenderArea and the FrameDescriptor (R9, R38) are held in the
same type and read with `BitVec.toInt`. -/
abbrev Word := BitVec 32

/-- One operation of the host, as the 66-bit transaction word `T[65:0]` (R71 of spec/30_encoding.md). -/
abbrev Transaction := BitVec 66

end Sys2Proof
end

