-- ==== Sys2Proof/Config.lean ====
section
/-! DEFINITION. The constants the source fixes (R7 of spec/00_scope.md) and the configuration record of R8: the
parameters a model takes. Their default values and what follows from them stand in Machine/Parameters.lean. -/

namespace Sys2Proof

/-- The formula sets the original source carried (R11). Only set `A` is described, so it is the only value;
"only `A` is defined" (U3, D20). -/
inductive Variant where
  | A
  deriving DecidableEq, Repr

/-- A reference to a Bus collaborator, as `CONNECT` binds it (R42, R201). Only its identity matters. -/
abbrev BusRef := Nat

/-- The register names of the enumeration (R20, R21), one for each pair of rows of the opcode table (R79). Their
order in the window is a parameter: `Config.registers`. -/
inductive Machine.RegName where
  | viStatus | viOrigin | viWidth | viIntr | viCurrent | viBurst | viVSync
  | viHSync | viLeap | viHStart | viVStart | viVBurst | viXScale | viYScale
  deriving DecidableEq, Repr

/-- The parameters of R8: "the model takes these as a configuration record". `NUM_REGS`, `VI_LEN` and `RELOAD`
follow from the fields by the constraints of R8 (`Config.numRegs`, `Config.viLen`, `Config.reload`). -/
structure Config where
  /-- `VI_BASE`, first bus address of the register window. -/
  viBase : Word
  /-- `IDX(name)`, as the names in index order: the register of index `i` stands at place `i`. -/
  registers : List Machine.RegName
  /-- `CYCLES_PER_SECOND`. -/
  cyclesPerSecond : Nat
  /-- `REFRESH_HZ`. -/
  refreshHz : Nat
  /-- `VI_INTR_LINE`; `none` where no value is taken (D23, log entry 5). -/
  viIntrLine : Option Nat
  /-- `MEM_BASE` of each Bus for which a value is taken (D25, log entry 4). -/
  memBases : List (BusRef × Nat)
  /-- `VARIANT` (R11). -/
  variant : Variant
  deriving DecidableEq, Repr

namespace Config

/-- `MAX_W`, the output width ceiling (R7). -/
def maxWidth : Int := 640

/-- `MAX_H`, the output height ceiling (R7). -/
def maxHeight : Int := 480

/-- `VI_INTR_LINE` where the configuration takes no value: OPEN (R8, R216, D23). A parameter without a body, so
no claim can rest on its value (log entry 5). -/
opaque openIntrLine : Nat

/-- `MEM_BASE` of a Bus for which the configuration takes no value: OPEN, and constant for the life of a
connection (R8, R218, D25). A parameter without a body, one value for each Bus (log entry 4). -/
opaque openMemBase : BusRef → Nat

end Config
end Sys2Proof
end

