-- ==== Sys2Proof/Machine/Parameters.lean ====
section
/-! DEFINITION. What follows from a configuration, the constraints of R8 on one, and the default configuration
the spec chose (spec/00_scope.md section 3). -/

namespace Sys2Proof

/-- `NUM_REGS`, the number of registers of the enumeration (R8). -/
def Config.numRegs (c : Config) : Nat := c.registers.length

/-- `VI_LEN = 4 * NUM_REGS`, the length of the window in bytes (R8). -/
def Config.viLen (c : Config) : Nat := 4 * c.numRegs

/-- `IDX(name)`, the index of a register of the enumeration (R8, R21). -/
def Config.index (c : Config) (r : Machine.RegName) : Nat := c.registers.idxOf r

/-- `RELOAD = floor(CYCLES_PER_SECOND / REFRESH_HZ) + 1` (R8, R145), held in the counter's 32 bits (D9). -/
def Config.reload (c : Config) : Word := BitVec.ofNat 32 (c.cyclesPerSecond / c.refreshHz + 1)

/-- `VI_INTR_LINE`, the `lineId` passed to the Bus (R8, R216). -/
def Config.intrLine (c : Config) : Nat := c.viIntrLine.getD Config.openIntrLine

/-- `MEM_BASE`, what `readMemoryPointer` of a Bus returns (R8, R218). -/
def Config.memBase (c : Config) (b : BusRef) : Nat := (c.memBases.lookup b).getD (Config.openMemBase b)

namespace Machine

/-- The nine registers the source names by function (R21): every enumeration has them. -/
def namedRegs : List RegName :=
  [.viStatus, .viOrigin, .viWidth, .viCurrent, .viVSync, .viHStart, .viVStart, .viXScale, .viYScale]

/-- The constraints of R8 on a configuration, with the closed enumeration of R20 and R21 (no name twice, none of
the nine missing) and the alignment of R55. `VI_LEN = 4 * NUM_REGS` and `RELOAD >= 1` hold by definition. -/
def validConfig (c : Config) : Bool :=
  decide c.registers.Nodup && namedRegs.all (fun r => c.registers.contains r) &&
    c.viBase.toNat % 4 == 0 && decide (c.viBase.toNat + c.viLen ≤ 2 ^ 32) &&
    decide (0 < c.refreshHz) && decide (c.cyclesPerSecond / c.refreshHz + 1 < 2 ^ 32)

/-- The defaults of R8: the window of D2, the register order of R21 (D1), the clock constants of D7, no value
for the two OPEN parameters (log entries 4 to 7). -/
def defaultConfig : Config where
  viBase := 0x04400000#32
  registers :=
    [.viStatus, .viOrigin, .viWidth, .viIntr, .viCurrent, .viBurst, .viVSync,
      .viHSync, .viLeap, .viHStart, .viVStart, .viVBurst, .viXScale, .viYScale]
  cyclesPerSecond := 62500000
  refreshHz := 60
  viIntrLine := none
  memBases := []
  variant := .A

end Machine
end Sys2Proof
end

