-- ==== Sys2Proof/Machine/State.lean ====
section
/-! DEFINITION. The state of the block as plain data (spec/10_state.md), the outcomes' reason types, and the
state after reset (R47, R240). -/

namespace Sys2Proof.Machine

/-- The register array (R20): exactly one 32-bit slot for each register name, none hardwired. -/
structure Regs where
  /-- `VI_STATUS` (R22). -/
  viStatus : Word
  /-- `VI_ORIGIN` (R23). -/
  viOrigin : Word
  /-- `VI_WIDTH` (R24). -/
  viWidth : Word
  /-- `VI_INTR` (R25): storage only. -/
  viIntr : Word
  /-- The slot of `VI_CURRENT` (R26): no operation reads or writes it. -/
  viCurrent : Word
  /-- `VI_BURST` (R27): storage only. -/
  viBurst : Word
  /-- `VI_V_SYNC` (R28). -/
  viVSync : Word
  /-- `VI_H_SYNC` (R29): storage only. -/
  viHSync : Word
  /-- `VI_LEAP` (R30): storage only. -/
  viLeap : Word
  /-- `VI_H_START` (R31). -/
  viHStart : Word
  /-- `VI_V_START` (R32). -/
  viVStart : Word
  /-- `VI_V_BURST` (R33): storage only. -/
  viVBurst : Word
  /-- `VI_X_SCALE` (R34). -/
  viXScale : Word
  /-- `VI_Y_SCALE` (R35). -/
  viYScale : Word
  deriving DecidableEq, Repr

/-- The RenderArea (R38): seven signed integers, each in 32 bits two's complement; the signed value is
`BitVec.toInt`. -/
structure RenderArea where
  xStart : Word
  xEnd : Word
  yStart : Word
  yEnd : Word
  width : Word
  height : Word
  hskip : Word
  deriving DecidableEq, Repr

/-- The causes a device can be halted with (R41, R210). -/
inductive HaltCause where
  /-- An address outside the register window (R211), with the address. -/
  | outOfRange (address : Word)
  /-- `VI_STATUS.FMT = 1` found at an expiry (R212). -/
  | reservedFormat
  /-- `VI_CURRENT` read with `VI_V_SYNC > RELOAD` (R213). -/
  | scanlineDivideByZero
  deriving DecidableEq, Repr

/-- The two pixel formats of a descriptor (R86, R184, R185, D28). -/
inductive PixelFormat where
  /-- `FMT_RGBA5551`, selector 2. -/
  | rgba5551
  /-- `FMT_RGBA8888`, selector 3. -/
  | rgba8888
  deriving DecidableEq, Repr

/-- The FrameDescriptor handed to the Presenter (R13, R188). Width and height are signed 32-bit values; the
pointer is an address of the host, which has no wrap (R189). -/
structure FrameDescriptor where
  format : PixelFormat
  sourceWidthIncludingSkip : Word
  height : Word
  bytesPerPixel : Nat
  dataPointer : Nat
  deriving DecidableEq, Repr

/-- The events of the output history (R12, R45). -/
inductive Event where
  /-- The Bus call `raiseInterrupt(bus, lineId)` (R216). -/
  | raiseIrq (line : Nat)
  /-- The Bus call `clearInterrupt(bus, lineId)` (R217). -/
  | clearIrq (line : Nat)
  /-- The hand-off of a frame to the Presenter (R190). -/
  | present (frame : FrameDescriptor)
  /-- The diagnostic of a contract violation (R214). -/
  | fatal (cause : HaltCause)
  deriving DecidableEq, Repr

/-- What an operation returns to its caller, where it returns something. -/
inductive Reply where
  /-- The 32-bit value of a `READ` (R72, R45). -/
  | value (v : Word)
  /-- `CREATE` reported that the Presenter-side setup failed (R204, R222). -/
  | createFailed
  deriving DecidableEq, Repr

/-- One device: the state `CREATE` makes (R47) and every later operation acts on. -/
structure Device where
  /-- The register array (R20). -/
  regs : Regs
  /-- The remaining-cycles-to-interrupt counter (R37). -/
  cyclesRemaining : Word
  /-- The RenderArea, recomputed at each geometry write (R38, R39). -/
  ra : RenderArea
  /-- The level of the video interrupt as the block has driven it (R40). -/
  irq : Bool
  /-- `none`, or the cause of the fault that halted the device (R41). -/
  halted : Option HaltCause
  /-- The Bus reference `CONNECT` has bound, if any (R42, R201); `busBound` is whether there is one. -/
  bus : Option BusRef
  deriving DecidableEq, Repr

/-- A device other than the one the operations address, with what it has put out (R200, R226). -/
structure Parked where
  device : Device
  history : List Event
  replies : List Reply
  deriving DecidableEq, Repr

/-- One operation as the host issues it: its transaction word (R71) and the two operands that have no
bit-level form, the Presenter's answer to a `CREATE` (R204) and the Bus of a `CONNECT` (R75). -/
structure Request where
  word : Transaction
  presenterFails : Bool
  bus : BusRef
  deriving DecidableEq, Repr

/-- The whole machine: the device the operations address, what it has put out, the host's operations still to
come, and the devices made by earlier `CREATE`s. -/
structure State where
  /-- The configuration the model takes (R8): no operation changes it, and every device has the same
  (log entry 22). -/
  config : Config
  /-- The addressed device, `none` before `CREATE` and after `DESTROY` (R200, R202). -/
  device : Option Device
  /-- The events emitted since the last successful `CREATE`, oldest first (R45). -/
  history : List Event
  /-- The replies returned since the last successful `CREATE`, oldest first (R45, R204). -/
  replies : List Reply
  /-- Devices of earlier `CREATE`s that were not destroyed, newest first (R200). -/
  others : List Parked
  /-- The model's own: the host's operations in the order it issues them (R44, R62; log entry 1). -/
  inbox : List Request
  /-- The model's own: whether the Presenter-side setup of the operation being performed fails (R204). -/
  presenterFails : Bool
  /-- The model's own: the Bus operand of the operation being performed (R75). -/
  busOperand : BusRef
  deriving DecidableEq, Repr

/-- Why the machine is stuck. -/
inductive Fault where
  /-- A `READ`, `WRITE`, `STEP` or `CONNECT` on a halted device: it has no effect and the spec gives it no
  step (R214, U12). Raised by every such meaning. Safe: no next state is invented. -/
  | deviceHalted (cause : HaltCause)
  deriving DecidableEq, Repr

/-- Why an operation has no meaning. -/
inductive Refusal where
  /-- The instruction has no meaning in this model yet. Raised by `exec` only. Safe. -/
  | notModelled (mnemonic : String)
  /-- An operation other than `CREATE` where no device exists: before `CREATE` or after `DESTROY`
  (R202, U13). Raised by every meaning but `CREATE`'s. Safe. -/
  | noDevice
  /-- `WR VI_CURRENT`, or a `STEP` that is an expiry, before `CONNECT` (R203, U10). Safe. -/
  | busNotConnected
  /-- The transaction word spells no operation (R75, R80, U14). Raised by `step`. Safe. -/
  | noSuchOperation (word : Transaction)
  deriving DecidableEq, Repr

/-- All registers zero (R20, R47). -/
def Regs.reset : Regs where
  viStatus := 0#32
  viOrigin := 0#32
  viWidth := 0#32
  viIntr := 0#32
  viCurrent := 0#32
  viBurst := 0#32
  viVSync := 0#32
  viHSync := 0#32
  viLeap := 0#32
  viHStart := 0#32
  viVStart := 0#32
  viVBurst := 0#32
  viXScale := 0#32
  viYScale := 0#32

/-- All seven fields zero (R47). -/
def RenderArea.reset : RenderArea := ⟨0#32, 0#32, 0#32, 0#32, 0#32, 0#32, 0#32⟩

/-- The device `CREATE` makes (R47, R200, R240). -/
def Device.reset (c : Config) : Device where
  regs := Regs.reset
  cyclesRemaining := c.reload
  ra := RenderArea.reset
  irq := false
  halted := none
  bus := none

/-- The machine right after reset, which is right after `CREATE` (R47, R240): a reset device, an empty output
history, and nothing issued by the host yet; for any configuration. -/
def State.resetOf (c : Config) : State where
  config := c
  device := some (Device.reset c)
  history := []
  replies := []
  others := []
  inbox := []
  presenterFails := false
  busOperand := 0

/-- The machine right after reset, at the default parameters of R8. -/
def State.reset : State := State.resetOf defaultConfig

end Sys2Proof.Machine
end

