-- ==== Sys2Proof/Machine/Operands.lean ====
section
/-! DEFINITION. Operand assembly (spec/30_encoding.md sections 2 and 3): the register a bus address selects,
and the fields the block takes out of a register. -/

namespace Sys2Proof.Machine

/-! ### Address decode (R76) -/

/-- `offset = u32(addr - VI_BASE)`, with the 32-bit wrap (R76). -/
def windowOffset (c : Config) (address : Word) : Nat := (address - c.viBase).toNat

/-- `inRange = offset < VI_LEN` (R76). -/
def inRange (c : Config) (address : Word) : Bool := windowOffset c address < c.viLen

/-- `index = udiv(offset, 4)`: the two low address bits do not take part (R55, R76, D4). -/
def windowIndex (c : Config) (address : Word) : Nat := windowOffset c address / 4

/-- The register a bus address selects, `none` outside the window (R76). -/
def regOf (c : Config) (address : Word) : Option RegName :=
  if inRange c address then c.registers[windowIndex c address]? else none

/-! ### Field extraction (R78): every field is an unsigned slice, zero-extended -/

/-- `hStart` and `vStartRaw`: bits 25:16 (R161, R162). -/
def startField (reg : Word) : Word := (reg >>> 16) &&& 0x3FF#32

/-- `hEnd` and `vEndRaw`: bits 9:0 (R161, R162). -/
def endField (reg : Word) : Word := reg &&& 0x3FF#32

/-- `xScale` and `yScale`: bits 11:0 (R34, R35). -/
def scaleField (reg : Word) : Word := reg &&& 0xFFF#32

/-- `fmt`: bits 1:0 of `VI_STATUS` (R181). -/
def formatField (statusReg : Word) : Word := statusReg &&& 0x3#32

/-- `originOffset`: bits 23:0 of `VI_ORIGIN` (R181). -/
def originOffset (originReg : Word) : Word := originReg &&& 0xFFFFFF#32

end Sys2Proof.Machine
end

