-- ==== Sys2Proof/Syntax.lean ====
section
/-! DEFINITION. The operations of the block: one constructor for each of the 34 rows of
spec/opcode_table.json (R79 of spec/30_encoding.md). -/

namespace Sys2Proof

/-- The complete operation set (R4, R79). A bus operation keeps the whole 32-bit address it was issued with:
which register that address selects is the constructor, and that the two agree is `WellFormed`. -/
inductive Instr where
  /-- `STEP` (R140). -/
  | step
  /-- `RD VI_STATUS` (R102). -/
  | rdViStatus (address : Word)
  /-- `RD VI_ORIGIN` (R103). -/
  | rdViOrigin (address : Word)
  /-- `RD VI_WIDTH` (R104). -/
  | rdViWidth (address : Word)
  /-- `RD VI_INTR` (R105). -/
  | rdViIntr (address : Word)
  /-- `RD VI_CURRENT` (R106). -/
  | rdViCurrent (address : Word)
  /-- `RD VI_BURST` (R107). -/
  | rdViBurst (address : Word)
  /-- `RD VI_V_SYNC` (R108). -/
  | rdViVSync (address : Word)
  /-- `RD VI_H_SYNC` (R109). -/
  | rdViHSync (address : Word)
  /-- `RD VI_LEAP` (R110). -/
  | rdViLeap (address : Word)
  /-- `RD VI_H_START` (R111). -/
  | rdViHStart (address : Word)
  /-- `RD VI_V_START` (R112). -/
  | rdViVStart (address : Word)
  /-- `RD VI_V_BURST` (R113). -/
  | rdViVBurst (address : Word)
  /-- `RD VI_X_SCALE` (R114). -/
  | rdViXScale (address : Word)
  /-- `RD VI_Y_SCALE` (R115). -/
  | rdViYScale (address : Word)
  /-- `RD <out of range>` (R130). -/
  | rdOutOfRange (address : Word)
  /-- `WR VI_STATUS` (R116). -/
  | wrViStatus (address value : Word)
  /-- `WR VI_ORIGIN` (R117). -/
  | wrViOrigin (address value : Word)
  /-- `WR VI_WIDTH` (R118). -/
  | wrViWidth (address value : Word)
  /-- `WR VI_INTR` (R119). -/
  | wrViIntr (address value : Word)
  /-- `WR VI_CURRENT` (R120). -/
  | wrViCurrent (address value : Word)
  /-- `WR VI_BURST` (R121). -/
  | wrViBurst (address value : Word)
  /-- `WR VI_V_SYNC` (R122). -/
  | wrViVSync (address value : Word)
  /-- `WR VI_H_SYNC` (R123). -/
  | wrViHSync (address value : Word)
  /-- `WR VI_LEAP` (R124). -/
  | wrViLeap (address value : Word)
  /-- `WR VI_H_START` (R125). -/
  | wrViHStart (address value : Word)
  /-- `WR VI_V_START` (R126). -/
  | wrViVStart (address value : Word)
  /-- `WR VI_V_BURST` (R127). -/
  | wrViVBurst (address value : Word)
  /-- `WR VI_X_SCALE` (R128). -/
  | wrViXScale (address value : Word)
  /-- `WR VI_Y_SCALE` (R129). -/
  | wrViYScale (address value : Word)
  /-- `WR <out of range>` (R131). -/
  | wrOutOfRange (address value : Word)
  /-- `CREATE` (R200). -/
  | create
  /-- `CONNECT` (R201); its Bus operand has no bit-level form (R75). -/
  | connect
  /-- `DESTROY` (R202). -/
  | destroy
  deriving DecidableEq, Repr

end Sys2Proof
end

