-- ==== Sys2Proof/WellFormed.lean ====
section
/-! DEFINITION. Well-formed operations: the address of a bus operation selects the register its constructor
names, and an out-of-range operation's address selects none (the operand lines of R102 to R131). -/

namespace Sys2Proof

/-- The address selects the register `r` (R76) in the window of the configuration. -/
def selects (c : Config) (address : Word) (r : Machine.RegName) : Bool := Machine.regOf c address == some r

/-- The operation's operands are ones its row of the opcode table admits. -/
def WellFormed (c : Config) : Instr → Bool
  | .step => true
  | .rdViStatus a => selects c a .viStatus
  | .rdViOrigin a => selects c a .viOrigin
  | .rdViWidth a => selects c a .viWidth
  | .rdViIntr a => selects c a .viIntr
  | .rdViCurrent a => selects c a .viCurrent
  | .rdViBurst a => selects c a .viBurst
  | .rdViVSync a => selects c a .viVSync
  | .rdViHSync a => selects c a .viHSync
  | .rdViLeap a => selects c a .viLeap
  | .rdViHStart a => selects c a .viHStart
  | .rdViVStart a => selects c a .viVStart
  | .rdViVBurst a => selects c a .viVBurst
  | .rdViXScale a => selects c a .viXScale
  | .rdViYScale a => selects c a .viYScale
  | .rdOutOfRange a => !Machine.inRange c a
  | .wrViStatus a _ => selects c a .viStatus
  | .wrViOrigin a _ => selects c a .viOrigin
  | .wrViWidth a _ => selects c a .viWidth
  | .wrViIntr a _ => selects c a .viIntr
  | .wrViCurrent a _ => selects c a .viCurrent
  | .wrViBurst a _ => selects c a .viBurst
  | .wrViVSync a _ => selects c a .viVSync
  | .wrViHSync a _ => selects c a .viHSync
  | .wrViLeap a _ => selects c a .viLeap
  | .wrViHStart a _ => selects c a .viHStart
  | .wrViVStart a _ => selects c a .viVStart
  | .wrViVBurst a _ => selects c a .viVBurst
  | .wrViXScale a _ => selects c a .viXScale
  | .wrViYScale a _ => selects c a .viYScale
  | .wrOutOfRange a _ => !Machine.inRange c a
  | .create => true
  | .connect => true
  | .destroy => true

end Sys2Proof
end

