-- ==== Sys2Proof/Decode.lean ====
section
/-! DEFINITION. Transaction words to operations and back (spec/30_encoding.md), and the opcode table's rows. -/

namespace Sys2Proof

open Machine (RegName regOf)

/-- The four operation formats (R70), by the `kind` field of R71. -/
inductive Format where
  | tick | busRead | busWrite | life
  deriving DecidableEq, Repr

/-- `kind`, bits 65:64 (R71). -/
def kindField (t : Transaction) : BitVec 2 := t.extractLsb' 64 2

/-- `addr`, bits 63:32 (R71). -/
def addrField (t : Transaction) : Word := t.extractLsb' 32 32

/-- `data`, bits 31:0 (R71). -/
def dataField (t : Transaction) : Word := t.extractLsb' 0 32

/-- The sub-operation of the format `LIFE`, `addr[1:0]` (R75). -/
def subOperation (t : Transaction) : BitVec 2 := t.extractLsb' 32 2

/-- 0 = `TICK`, 1 = `BUS_READ`, 2 = `BUS_WRITE`, 3 = `LIFE` (R71). -/
def formatOf (t : Transaction) : Format :=
  if kindField t = 0#2 then .tick
  else if kindField t = 1#2 then .busRead
  else if kindField t = 2#2 then .busWrite
  else .life

/-- Why a transaction word spells no operation. -/
inductive DecodeError where
  /-- `LIFE` with sub-operation 3 (R75, R80). -/
  | lifeSubOperationThree
  deriving DecidableEq, Repr

/-- The `BUS_READ` operation at an address (R72, R100). -/
def decodeRead (c : Config) (a : Word) : Instr :=
  match regOf c a with
  | none => .rdOutOfRange a
  | some .viStatus => .rdViStatus a
  | some .viOrigin => .rdViOrigin a
  | some .viWidth => .rdViWidth a
  | some .viIntr => .rdViIntr a
  | some .viCurrent => .rdViCurrent a
  | some .viBurst => .rdViBurst a
  | some .viVSync => .rdViVSync a
  | some .viHSync => .rdViHSync a
  | some .viLeap => .rdViLeap a
  | some .viHStart => .rdViHStart a
  | some .viVStart => .rdViVStart a
  | some .viVBurst => .rdViVBurst a
  | some .viXScale => .rdViXScale a
  | some .viYScale => .rdViYScale a

/-- The `BUS_WRITE` operation at an address (R73, R101). -/
def decodeWrite (c : Config) (a v : Word) : Instr :=
  match regOf c a with
  | none => .wrOutOfRange a v
  | some .viStatus => .wrViStatus a v
  | some .viOrigin => .wrViOrigin a v
  | some .viWidth => .wrViWidth a v
  | some .viIntr => .wrViIntr a v
  | some .viCurrent => .wrViCurrent a v
  | some .viBurst => .wrViBurst a v
  | some .viVSync => .wrViVSync a v
  | some .viHSync => .wrViHSync a v
  | some .viLeap => .wrViLeap a v
  | some .viHStart => .wrViHStart a v
  | some .viVStart => .wrViVStart a v
  | some .viVBurst => .wrViVBurst a v
  | some .viXScale => .wrViXScale a v
  | some .viYScale => .wrViYScale a v

/-- The `LIFE` operation of a word (R75). -/
def decodeLife (t : Transaction) : Except DecodeError Instr :=
  if subOperation t = 0#2 then .ok .create
  else if subOperation t = 1#2 then .ok .connect
  else if subOperation t = 2#2 then .ok .destroy
  else .error .lifeSubOperationThree

/-- The operation a transaction word spells in a configuration: total, and refusing by name (R80). -/
def decode (c : Config) (t : Transaction) : Except DecodeError Instr :=
  match formatOf t with
  | .tick => .ok .step
  | .busRead => .ok (decodeRead c (addrField t))
  | .busWrite => .ok (decodeWrite c (addrField t) (dataField t))
  | .life => decodeLife t

/-! ### The encoder -/

/-- The transaction word with the given fields (R71). -/
def pack (kind : BitVec 2) (addr data : Word) : Transaction := kind ++ addr ++ data

/-- A `BUS_READ` word (R72); the ignored data field is written as 0. -/
def packRead (a : Word) : Transaction := pack 1#2 a 0#32

/-- A `BUS_WRITE` word (R73). -/
def packWrite (a v : Word) : Transaction := pack 2#2 a v

/-- A word that spells the operation; fields the format ignores are written as 0 (R71). -/
def encode : Instr → Transaction
  | .step => pack 0#2 0#32 0#32
  | .rdViStatus a => packRead a
  | .rdViOrigin a => packRead a
  | .rdViWidth a => packRead a
  | .rdViIntr a => packRead a
  | .rdViCurrent a => packRead a
  | .rdViBurst a => packRead a
  | .rdViVSync a => packRead a
  | .rdViHSync a => packRead a
  | .rdViLeap a => packRead a
  | .rdViHStart a => packRead a
  | .rdViVStart a => packRead a
  | .rdViVBurst a => packRead a
  | .rdViXScale a => packRead a
  | .rdViYScale a => packRead a
  | .rdOutOfRange a => packRead a
  | .wrViStatus a v => packWrite a v
  | .wrViOrigin a v => packWrite a v
  | .wrViWidth a v => packWrite a v
  | .wrViIntr a v => packWrite a v
  | .wrViCurrent a v => packWrite a v
  | .wrViBurst a v => packWrite a v
  | .wrViVSync a v => packWrite a v
  | .wrViHSync a v => packWrite a v
  | .wrViLeap a v => packWrite a v
  | .wrViHStart a v => packWrite a v
  | .wrViVStart a v => packWrite a v
  | .wrViVBurst a v => packWrite a v
  | .wrViXScale a v => packWrite a v
  | .wrViYScale a v => packWrite a v
  | .wrOutOfRange a v => packWrite a v
  | .create => pack 3#2 0#32 0#32
  | .connect => pack 3#2 1#32 0#32
  | .destroy => pack 3#2 2#32 0#32

/-- The format of an operation (R79). -/
def Instr.format : Instr → Format
  | .step => .tick
  | .rdViStatus _ => .busRead
  | .rdViOrigin _ => .busRead
  | .rdViWidth _ => .busRead
  | .rdViIntr _ => .busRead
  | .rdViCurrent _ => .busRead
  | .rdViBurst _ => .busRead
  | .rdViVSync _ => .busRead
  | .rdViHSync _ => .busRead
  | .rdViLeap _ => .busRead
  | .rdViHStart _ => .busRead
  | .rdViVStart _ => .busRead
  | .rdViVBurst _ => .busRead
  | .rdViXScale _ => .busRead
  | .rdViYScale _ => .busRead
  | .rdOutOfRange _ => .busRead
  | .wrViStatus _ _ => .busWrite
  | .wrViOrigin _ _ => .busWrite
  | .wrViWidth _ _ => .busWrite
  | .wrViIntr _ _ => .busWrite
  | .wrViCurrent _ _ => .busWrite
  | .wrViBurst _ _ => .busWrite
  | .wrViVSync _ _ => .busWrite
  | .wrViHSync _ _ => .busWrite
  | .wrViLeap _ _ => .busWrite
  | .wrViHStart _ _ => .busWrite
  | .wrViVStart _ _ => .busWrite
  | .wrViVBurst _ _ => .busWrite
  | .wrViXScale _ _ => .busWrite
  | .wrViYScale _ _ => .busWrite
  | .wrOutOfRange _ _ => .busWrite
  | .create => .life
  | .connect => .life
  | .destroy => .life

/-! ### The opcode table (R79, R80) -/

/-- A row of spec/opcode_table.json. -/
structure OpcodeRow where
  mnemonic : String
  matchBits : Transaction
  maskBits : Transaction
  /-- `"priority": "default"`: taken only when no other row of the same kind is selected (R80). -/
  isDefault : Bool
  deriving DecidableEq, Repr

/-- "A word `T` selects a row when `(T & mask) == match`" (R71). -/
def OpcodeRow.selectedBy (r : OpcodeRow) (t : Transaction) : Bool := t &&& r.maskBits == r.matchBits

/-- The `BUS_READ` rows. -/
def readRows : List OpcodeRow :=
  [⟨"RD_VI_STATUS", 0x10440000000000000#66, 0x3FFFFFFFC00000000#66, false⟩,
    ⟨"RD_VI_ORIGIN", 0x10440000400000000#66, 0x3FFFFFFFC00000000#66, false⟩,
    ⟨"RD_VI_WIDTH", 0x10440000800000000#66, 0x3FFFFFFFC00000000#66, false⟩,
    ⟨"RD_VI_INTR", 0x10440000C00000000#66, 0x3FFFFFFFC00000000#66, false⟩,
    ⟨"RD_VI_CURRENT", 0x10440001000000000#66, 0x3FFFFFFFC00000000#66, false⟩,
    ⟨"RD_VI_BURST", 0x10440001400000000#66, 0x3FFFFFFFC00000000#66, false⟩,
    ⟨"RD_VI_V_SYNC", 0x10440001800000000#66, 0x3FFFFFFFC00000000#66, false⟩,
    ⟨"RD_VI_H_SYNC", 0x10440001C00000000#66, 0x3FFFFFFFC00000000#66, false⟩,
    ⟨"RD_VI_LEAP", 0x10440002000000000#66, 0x3FFFFFFFC00000000#66, false⟩,
    ⟨"RD_VI_H_START", 0x10440002400000000#66, 0x3FFFFFFFC00000000#66, false⟩,
    ⟨"RD_VI_V_START", 0x10440002800000000#66, 0x3FFFFFFFC00000000#66, false⟩,
    ⟨"RD_VI_V_BURST", 0x10440002C00000000#66, 0x3FFFFFFFC00000000#66, false⟩,
    ⟨"RD_VI_X_SCALE", 0x10440003000000000#66, 0x3FFFFFFFC00000000#66, false⟩,
    ⟨"RD_VI_Y_SCALE", 0x10440003400000000#66, 0x3FFFFFFFC00000000#66, false⟩,
    ⟨"RD__out_of_range", 0x10000000000000000#66, 0x30000000000000000#66, true⟩]

/-- The `BUS_WRITE` rows. -/
def writeRows : List OpcodeRow :=
  [⟨"WR_VI_STATUS", 0x20440000000000000#66, 0x3FFFFFFFC00000000#66, false⟩,
    ⟨"WR_VI_ORIGIN", 0x20440000400000000#66, 0x3FFFFFFFC00000000#66, false⟩,
    ⟨"WR_VI_WIDTH", 0x20440000800000000#66, 0x3FFFFFFFC00000000#66, false⟩,
    ⟨"WR_VI_INTR", 0x20440000C00000000#66, 0x3FFFFFFFC00000000#66, false⟩,
    ⟨"WR_VI_CURRENT", 0x20440001000000000#66, 0x3FFFFFFFC00000000#66, false⟩,
    ⟨"WR_VI_BURST", 0x20440001400000000#66, 0x3FFFFFFFC00000000#66, false⟩,
    ⟨"WR_VI_V_SYNC", 0x20440001800000000#66, 0x3FFFFFFFC00000000#66, false⟩,
    ⟨"WR_VI_H_SYNC", 0x20440001C00000000#66, 0x3FFFFFFFC00000000#66, false⟩,
    ⟨"WR_VI_LEAP", 0x20440002000000000#66, 0x3FFFFFFFC00000000#66, false⟩,
    ⟨"WR_VI_H_START", 0x20440002400000000#66, 0x3FFFFFFFC00000000#66, false⟩,
    ⟨"WR_VI_V_START", 0x20440002800000000#66, 0x3FFFFFFFC00000000#66, false⟩,
    ⟨"WR_VI_V_BURST", 0x20440002C00000000#66, 0x3FFFFFFFC00000000#66, false⟩,
    ⟨"WR_VI_X_SCALE", 0x20440003000000000#66, 0x3FFFFFFFC00000000#66, false⟩,
    ⟨"WR_VI_Y_SCALE", 0x20440003400000000#66, 0x3FFFFFFFC00000000#66, false⟩,
    ⟨"WR__out_of_range", 0x20000000000000000#66, 0x30000000000000000#66, true⟩]

/-- The `TICK` and `LIFE` rows. -/
def otherRows : List OpcodeRow :=
  [⟨"STEP", 0x00000000000000000#66, 0x30000000000000000#66, false⟩,
    ⟨"CREATE", 0x30000000000000000#66, 0x30000000300000000#66, false⟩,
    ⟨"CONNECT", 0x30000000100000000#66, 0x30000000300000000#66, false⟩,
    ⟨"DESTROY", 0x30000000200000000#66, 0x30000000300000000#66, false⟩]

/-- The 34 rows of spec/opcode_table.json, with addresses at the default parameters (R79). -/
def opcodeRows : List OpcodeRow := otherRows ++ readRows ++ writeRows

/-- The rows a word selects: the rows that match it, a default row only where no other row does (R80). -/
def rowsSelected (t : Transaction) : List OpcodeRow :=
  let named := opcodeRows.filter fun r => !r.isDefault && r.selectedBy t
  if named = [] then opcodeRows.filter fun r => r.isDefault && r.selectedBy t else named

/-- The mnemonic of the operation's row of spec/opcode_table.json. -/
def Instr.mnemonic : Instr → String
  | .step => "STEP"
  | .rdViStatus _ => "RD_VI_STATUS"
  | .rdViOrigin _ => "RD_VI_ORIGIN"
  | .rdViWidth _ => "RD_VI_WIDTH"
  | .rdViIntr _ => "RD_VI_INTR"
  | .rdViCurrent _ => "RD_VI_CURRENT"
  | .rdViBurst _ => "RD_VI_BURST"
  | .rdViVSync _ => "RD_VI_V_SYNC"
  | .rdViHSync _ => "RD_VI_H_SYNC"
  | .rdViLeap _ => "RD_VI_LEAP"
  | .rdViHStart _ => "RD_VI_H_START"
  | .rdViVStart _ => "RD_VI_V_START"
  | .rdViVBurst _ => "RD_VI_V_BURST"
  | .rdViXScale _ => "RD_VI_X_SCALE"
  | .rdViYScale _ => "RD_VI_Y_SCALE"
  | .rdOutOfRange _ => "RD__out_of_range"
  | .wrViStatus _ _ => "WR_VI_STATUS"
  | .wrViOrigin _ _ => "WR_VI_ORIGIN"
  | .wrViWidth _ _ => "WR_VI_WIDTH"
  | .wrViIntr _ _ => "WR_VI_INTR"
  | .wrViCurrent _ _ => "WR_VI_CURRENT"
  | .wrViBurst _ _ => "WR_VI_BURST"
  | .wrViVSync _ _ => "WR_VI_V_SYNC"
  | .wrViHSync _ _ => "WR_VI_H_SYNC"
  | .wrViLeap _ _ => "WR_VI_LEAP"
  | .wrViHStart _ _ => "WR_VI_H_START"
  | .wrViVStart _ _ => "WR_VI_V_START"
  | .wrViVBurst _ _ => "WR_VI_V_BURST"
  | .wrViXScale _ _ => "WR_VI_X_SCALE"
  | .wrViYScale _ _ => "WR_VI_Y_SCALE"
  | .wrOutOfRange _ _ => "WR__out_of_range"
  | .create => "CREATE"
  | .connect => "CONNECT"
  | .destroy => "DESTROY"

/-! ### The host's view of the opcode table -/

/-- The transaction word of a number of `nbits` bits, bit 0 its least significant (R12, R71). The table gives
66 bits; what stands above them is padding to whole bytes. -/
def tableWord (nbits w : Nat) : Transaction := BitVec.ofNat 66 (w % 2 ^ nbits)

/-- The instruction the decoder reads from a word numbered as spec/opcode_table.json numbers it, at the default
parameters, which the table's addresses are at (R79). -/
def decodeTableWord (nbits w : Nat) : Option Instr :=
  match decode Machine.defaultConfig (tableWord nbits w) with
  | .ok i => some i
  | .error _ => none

end Sys2Proof
end

