-- ==== Sys2Proof/Machine/Flags.lean ====
section
/-! DEFINITION. The flag-like state of a device. The block has no condition codes (R43); what it has is the
interrupt level `irq` (R40) and `busBound` (R42). -/

namespace Sys2Proof.Machine

/-- `irq <- 1`: raising while the level is 1 leaves it 1 (R40, R144). -/
def Device.raiseIrq (d : Device) : Device := { d with irq := true }

/-- `irq <- 0`: clearing while the level is 0 leaves it 0 (R40, R120). -/
def Device.clearIrq (d : Device) : Device := { d with irq := false }

/-- `busBound`: whether `CONNECT` has bound a Bus (R42). -/
def Device.busBound (d : Device) : Bool := d.bus.isSome

end Sys2Proof.Machine
end

