-- ==== Sys2Proof/Machine/FrameDecoder.lean ====
section
/-! DEFINITION. The FrameDecoder (spec/43_frame_decoder.md): format validation, addressing and decline. -/

namespace Sys2Proof.Machine

/-- The three outcomes of the FrameDecoder (R180). -/
inductive DecodedFrame where
  /-- No frame is presented this tick: a benign no-op (R182, R186, R187, R221). -/
  | decline
  /-- The fatal selector 1 (R183). -/
  | reservedFormat
  /-- A descriptor for the Presenter (R188). -/
  | descriptor (frame : FrameDescriptor)
  deriving DecidableEq, Repr

/-- Nothing to present: zero origin offset (R186), or a width or height that is zero or negative as a signed
number (R187). -/
def declines (ra : RenderArea) (originReg : Word) : Bool :=
  originOffset originReg == 0#32 || ra.width.toInt ≤ 0 || ra.height.toInt ≤ 0

/-- The descriptor's fields when nothing declines (R188, R189). -/
def frameOf (ra : RenderArea) (originReg : Word) (memBase : Nat) (format : PixelFormat) (bpp : Nat) :
    FrameDescriptor where
  format := format
  sourceWidthIncludingSkip := ra.width + ra.hskip
  height := ra.height
  bytesPerPixel := bpp
  dataPointer := memBase + (originOffset originReg).toNat

/-- `decodeFrame(RA, originReg, statusReg, MEM_BASE)` (R180), the tests in the order of R192. -/
def decodeFrame (ra : RenderArea) (originReg statusReg : Word) (memBase : Nat) : DecodedFrame :=
  if formatField statusReg = 0#32 then .decline
  else if formatField statusReg = 1#32 then .reservedFormat
  else if declines ra originReg then .decline
  else if formatField statusReg = 2#32 then .descriptor (frameOf ra originReg memBase .rgba5551 2)
  else .descriptor (frameOf ra originReg memBase .rgba8888 4)

end Sys2Proof.Machine
end

