-- ==== Sys2Proof/Machine/Geometry.lean ====
section
/-! DEFINITION. The GeometryEngine (spec/42_geometry_engine.md): the pure function `deriveRenderArea`. -/

namespace Sys2Proof.Machine

/-- `tdiv(scale * (stop - start), 1024)`: the exact signed product, divided once, rounding toward zero
(R164, R165, D13). -/
def scaledExtent (scale start stop : Word) : Int :=
  ((scale.toNat : Int) * ((stop.toNat : Int) - (start.toNat : Int))).tdiv 1024

/-- The upper saturation of R166: no lower clamp (D14). -/
def clampTo (ceiling raw : Int) : Int := min raw ceiling

/-- Formula set `A` (R160): Y start and end are halved each, before the subtraction (R163); the skip is the
whole stride register minus the clamped width, modulo 2^32 (R167). -/
def deriveRenderAreaA (hReg vReg xsReg ysReg wReg : Word) : RenderArea :=
  let xStart := startField hReg
  let xEnd := endField hReg
  let yStart := startField vReg >>> 1
  let yEnd := endField vReg >>> 1
  let width := BitVec.ofInt 32 (clampTo Config.maxWidth (scaledExtent (scaleField xsReg) xStart xEnd))
  let height := BitVec.ofInt 32 (clampTo Config.maxHeight (scaledExtent (scaleField ysReg) yStart yEnd))
  { xStart, xEnd, yStart, yEnd, width, height, hskip := wReg - width }

/-- `deriveRenderArea` for the formula set in force (R11, R160). -/
def deriveRenderArea (variant : Variant) (hReg vReg xsReg ysReg wReg : Word) : RenderArea :=
  match variant with
  | .A => deriveRenderAreaA hReg vReg xsReg ysReg wReg

/-- The RenderArea of a register array: the right side of the invariant R39. -/
def Regs.renderArea (x : Regs) (variant : Variant) : RenderArea :=
  deriveRenderArea variant x.viHStart x.viVStart x.viXScale x.viYScale x.viWidth

end Sys2Proof.Machine
end

