-- ==== Sys2Proof/Machine/Ops.lean ====
section
/-! DEFINITION. The named operations the meanings share: slot access, output, fault entry, the READ and WRITE
of a register, frame production and expiry, and taking the host's next operation. -/

namespace Sys2Proof.Machine

/-! ### Slots of the register array (R20) -/

/-- `x[r]`, without side effect (R12). -/
def Regs.read (x : Regs) : RegName → Word
  | .viStatus => x.viStatus
  | .viOrigin => x.viOrigin
  | .viWidth => x.viWidth
  | .viIntr => x.viIntr
  | .viCurrent => x.viCurrent
  | .viBurst => x.viBurst
  | .viVSync => x.viVSync
  | .viHSync => x.viHSync
  | .viLeap => x.viLeap
  | .viHStart => x.viHStart
  | .viVStart => x.viVStart
  | .viVBurst => x.viVBurst
  | .viXScale => x.viXScale
  | .viYScale => x.viYScale

/-- `x[r] <- v`, all 32 bits, without side effect (R12). -/
def Regs.write (x : Regs) (r : RegName) (v : Word) : Regs :=
  match r with
  | .viStatus => { x with viStatus := v }
  | .viOrigin => { x with viOrigin := v }
  | .viWidth => { x with viWidth := v }
  | .viIntr => { x with viIntr := v }
  | .viCurrent => { x with viCurrent := v }
  | .viBurst => { x with viBurst := v }
  | .viVSync => { x with viVSync := v }
  | .viHSync => { x with viHSync := v }
  | .viLeap => { x with viLeap := v }
  | .viHStart => { x with viHStart := v }
  | .viVStart => { x with viVStart := v }
  | .viVBurst => { x with viVBurst := v }
  | .viXScale => { x with viXScale := v }
  | .viYScale => { x with viYScale := v }

/-! ### The machine around the device -/

/-- The machine with `d` as the addressed device. -/
def State.setDevice (s : State) (d : Device) : State := { s with device := some d }

/-- `emit e`: append an event to the output history (R12, R45). -/
def State.emit (s : State) (e : Event) : State := { s with history := s.history ++ [e] }

/-- Return `r` to the caller of the operation (R45, R72, R204). -/
def State.reply (s : State) (r : Reply) : State := { s with replies := s.replies ++ [r] }

/-- Every operation but `CREATE` and `DESTROY` acts on a device that exists (R202, U13) and is not halted
(R214, U12); `f` is what it does there. -/
def onDevice (s : State) (f : Device → Host.Outcome State Fault Refusal) :
    Host.Outcome State Fault Refusal :=
  match s.device with
  | none => .refused .noDevice
  | some d =>
    match d.halted with
    | some c => .fault (.deviceHalted c)
    | none => f d

/-! ### Fault entry (R214) -/

/-- `raise cause`: the operation stops, `halted <- cause`, `Fatal(cause)` is emitted, and nothing else changes
(R214). There is no return from it (R215): the way on is `DESTROY` and a new `CREATE`. -/
def raise (cause : HaltCause) (s : State) (d : Device) : State :=
  (s.setDevice { d with halted := some cause }).emit (.fatal cause)

/-! ### READ (R100) -/

/-- The synthesized value of `VI_CURRENT` (R106): `none` where the divisor is zero, which is where the read
faults (R213). Unsigned 32-bit divisions dropping the remainder, the result made even (D10). -/
def scanline (reload vsync cyclesRemaining : Word) : Option Word :=
  if vsync = 0#32 then some 0#32
  else if reload / vsync = 0#32 then none
  else some ((reload - cyclesRemaining) / (reload / vsync) &&& 0xFFFFFFFE#32)

/-- What a `READ` of `r` returns: the slot for every register but `VI_CURRENT`, whose slot is not consulted
(R36, R100). -/
def readValue (c : Config) (r : RegName) (d : Device) : Option Word :=
  match r with
  | .viCurrent => scanline c.reload d.regs.viVSync d.cyclesRemaining
  | r => some (d.regs.read r)

/-- `READ` of the register `r`: no state of the device changes (R58). -/
def readRegister (r : RegName) (s : State) : Host.Outcome State Fault Refusal :=
  onDevice s fun d =>
    match readValue s.config r d with
    | some v => .next (s.reply (.value v))
    | none => .next (raise .scanlineDivideByZero s d)

/-! ### WRITE (R101) -/

/-- The side effect of a `WRITE`, one for each register (R36, R59). -/
inductive WriteEffect where
  /-- Store verbatim, nothing else. -/
  | store
  /-- Store verbatim and recompute the RenderArea. -/
  | storeAndDerive
  /-- Store nothing and acknowledge the interrupt. -/
  | acknowledge
  deriving DecidableEq, Repr

/-- "An explicit table mapping register identity to a side-effect handler" (R36). -/
def writeEffect : RegName → WriteEffect
  | .viStatus => .store
  | .viOrigin => .store
  | .viWidth => .storeAndDerive
  | .viIntr => .store
  | .viCurrent => .acknowledge
  | .viBurst => .store
  | .viVSync => .store
  | .viHSync => .store
  | .viLeap => .store
  | .viHStart => .storeAndDerive
  | .viVStart => .storeAndDerive
  | .viVBurst => .store
  | .viXScale => .storeAndDerive
  | .viYScale => .storeAndDerive

/-- `x[r] <- v` in the device. -/
def Device.store (d : Device) (r : RegName) (v : Word) : Device :=
  { d with regs := d.regs.write r v }

/-- `RA <- deriveRenderArea(...)` of the registers as they stand (R160, R170). -/
def Device.derive (d : Device) (variant : Variant) : Device := { d with ra := d.regs.renderArea variant }

/-- `WRITE` of `v` to the register `r` (R101). -/
def writeRegister (r : RegName) (v : Word) (s : State) : Host.Outcome State Fault Refusal :=
  onDevice s fun d =>
    match writeEffect r with
    | .store => .next (s.setDevice (d.store r v))
    | .storeAndDerive => .next (s.setDevice ((d.store r v).derive s.config.variant))
    | .acknowledge =>
      if d.busBound then .next ((s.setDevice d.clearIrq).emit (.clearIrq s.config.intrLine))
      else .refused .busNotConnected

/-- `READ` or `WRITE` at an address outside the window (R130, R131): the fault entry and nothing else. -/
def accessOutOfRange (address : Word) (s : State) : Host.Outcome State Fault Refusal :=
  onDevice s fun d => .next (raise (.outOfRange address) s d)

/-! ### STEP (R140) -/

/-- What every expiry that does not fault ends with, after frame production: `RaiseIrq` (R144), the reload
(R145) and the decrement (R146). -/
def finishExpiry (s : State) (d : Device) : State :=
  (s.setDevice { d.raiseIrq with cyclesRemaining := s.config.reload - 1#32 }).emit
    (.raiseIrq s.config.intrLine)

/-- The expiry of a device bound to the Bus `b`: frame production first (R143), then `finishExpiry`. -/
def expire (s : State) (d : Device) (b : BusRef) : State :=
  match decodeFrame d.ra d.regs.viOrigin d.regs.viStatus (s.config.memBase b) with
  | .reservedFormat => raise .reservedFormat s d
  | .decline => finishExpiry s d
  | .descriptor frame => finishExpiry (s.emit (.present frame)) d

/-- `STEP`: an expiry exactly when it begins with the counter at zero (R142), a decrement otherwise (R146). -/
def tick (s : State) : Host.Outcome State Fault Refusal :=
  onDevice s fun d =>
    if d.cyclesRemaining = 0#32 then
      match d.bus with
      | none => .refused .busNotConnected
      | some b => .next (expire s d b)
    else .next (s.setDevice { d with cyclesRemaining := d.cyclesRemaining - 1#32 })

/-! ### The host's operations (R62, R71) -/

/-- The addressed device and its output set aside, untouched, with the others (R200). -/
def State.parkDevice (s : State) : List Parked :=
  match s.device with
  | none => s.others
  | some d => ⟨d, s.history, s.replies⟩ :: s.others

/-- The machine once the request `r` is taken off the host's list, `rest` being what stays on it: the operands
without a bit-level form stand ready for the operation. -/
def State.accept (s : State) (r : Request) (rest : List Request) : State :=
  { s with inbox := rest, presenterFails := r.presenterFails, busOperand := r.bus }

/-- The host's next operation, if it has issued one: its transaction word and the machine that performs it. -/
def takeRequest (s : State) : Option (Transaction × State) :=
  match s.inbox with
  | [] => none
  | r :: rest => some (r.word, s.accept r rest)

end Sys2Proof.Machine
end

