-- ==== Sys2Proof/Machine/Lifecycle.lean ====
section
/-! DEFINITION. The lifecycle operations `CREATE`, `CONNECT` and `DESTROY` (spec/44_lifecycle.md). -/

namespace Sys2Proof.Machine

/-- `CREATE` (R200): a reset device with an empty output history; a device that is there already is not
touched. Where the Presenter-side setup fails, no device results and the caller is told (R204, R222). -/
def execCreate (s : State) : Host.Outcome State Fault Refusal :=
  if s.presenterFails then .next (s.reply .createFailed)
  else
    .next { s with
      device := some (Device.reset s.config)
      history := []
      replies := []
      others := s.parkDevice }

/-- `CONNECT(bus)` (R201): binds the Bus, replacing one bound before (D38). -/
def execConnect (s : State) : Host.Outcome State Fault Refusal :=
  onDevice s fun d => .next (s.setDevice { d with bus := some s.busOperand })

/-- `DESTROY` (R202): the device ceases to exist, halted or not, and no event is emitted (D32). -/
def execDestroy (s : State) : Host.Outcome State Fault Refusal :=
  match s.device with
  | none => .refused .noDevice
  | some _ => .next { s with device := none }

end Sys2Proof.Machine
end

