-- ==== Sys2Proof/Machine/Reads.lean ====
section
/-! DEFINITION. `READ` of every register and `READ` out of range (spec/40_register_access.md sections 2 and 4).
The low two bits of the address, and the data field of the word, do not take part (R55, R72). -/

namespace Sys2Proof.Machine

/-- `RD VI_STATUS` (R102). -/
def execRdViStatus (s : State) : Host.Outcome State Fault Refusal :=
  readRegister .viStatus s

/-- `RD VI_ORIGIN` (R103). -/
def execRdViOrigin (s : State) : Host.Outcome State Fault Refusal :=
  readRegister .viOrigin s

/-- `RD VI_WIDTH` (R104). -/
def execRdViWidth (s : State) : Host.Outcome State Fault Refusal :=
  readRegister .viWidth s

/-- `RD VI_INTR` (R105). -/
def execRdViIntr (s : State) : Host.Outcome State Fault Refusal :=
  readRegister .viIntr s

/-- `RD VI_CURRENT` (R106): the value is synthesized, or the read faults. -/
def execRdViCurrent (s : State) : Host.Outcome State Fault Refusal :=
  readRegister .viCurrent s

/-- `RD VI_BURST` (R107). -/
def execRdViBurst (s : State) : Host.Outcome State Fault Refusal :=
  readRegister .viBurst s

/-- `RD VI_V_SYNC` (R108). -/
def execRdViVSync (s : State) : Host.Outcome State Fault Refusal :=
  readRegister .viVSync s

/-- `RD VI_H_SYNC` (R109). -/
def execRdViHSync (s : State) : Host.Outcome State Fault Refusal :=
  readRegister .viHSync s

/-- `RD VI_LEAP` (R110). -/
def execRdViLeap (s : State) : Host.Outcome State Fault Refusal :=
  readRegister .viLeap s

/-- `RD VI_H_START` (R111). -/
def execRdViHStart (s : State) : Host.Outcome State Fault Refusal :=
  readRegister .viHStart s

/-- `RD VI_V_START` (R112). -/
def execRdViVStart (s : State) : Host.Outcome State Fault Refusal :=
  readRegister .viVStart s

/-- `RD VI_V_BURST` (R113). -/
def execRdViVBurst (s : State) : Host.Outcome State Fault Refusal :=
  readRegister .viVBurst s

/-- `RD VI_X_SCALE` (R114). -/
def execRdViXScale (s : State) : Host.Outcome State Fault Refusal :=
  readRegister .viXScale s

/-- `RD VI_Y_SCALE` (R115). -/
def execRdViYScale (s : State) : Host.Outcome State Fault Refusal :=
  readRegister .viYScale s

/-- `RD <out of range>` (R130). -/
def execRdOutOfRange (address : Word) (s : State) : Host.Outcome State Fault Refusal :=
  accessOutOfRange address s

end Sys2Proof.Machine
end

