-- ==== Sys2Proof/Machine/Timing.lean ====
section
/-! DEFINITION. The TimingEngine's one operation, `STEP` (spec/41_timing_engine.md). -/

namespace Sys2Proof.Machine

/-- `STEP` (R140). -/
def execStep (s : State) : Host.Outcome State Fault Refusal := tick s

end Sys2Proof.Machine
end

