-- ==== Sys2Proof/Machine/Writes.lean ====
section
/-! DEFINITION. `WRITE` to every register and `WRITE` out of range (spec/40_register_access.md sections 3 and 4).
Which of the three kinds of effect a register has is the table `writeEffect` (R36). -/

namespace Sys2Proof.Machine

/-- `WR VI_STATUS` (R116): stores verbatim. -/
def execWrViStatus (value : Word) (s : State) : Host.Outcome State Fault Refusal :=
  writeRegister .viStatus value s

/-- `WR VI_ORIGIN` (R117): stores verbatim. -/
def execWrViOrigin (value : Word) (s : State) : Host.Outcome State Fault Refusal :=
  writeRegister .viOrigin value s

/-- `WR VI_WIDTH` (R118): stores and recomputes the RenderArea. -/
def execWrViWidth (value : Word) (s : State) : Host.Outcome State Fault Refusal :=
  writeRegister .viWidth value s

/-- `WR VI_INTR` (R119): stores verbatim. -/
def execWrViIntr (value : Word) (s : State) : Host.Outcome State Fault Refusal :=
  writeRegister .viIntr value s

/-- `WR VI_CURRENT` (R120): stores nothing and acknowledges the interrupt; the value is not used. -/
def execWrViCurrent (value : Word) (s : State) : Host.Outcome State Fault Refusal :=
  writeRegister .viCurrent value s

/-- `WR VI_BURST` (R121): stores verbatim. -/
def execWrViBurst (value : Word) (s : State) : Host.Outcome State Fault Refusal :=
  writeRegister .viBurst value s

/-- `WR VI_V_SYNC` (R122): stores verbatim. -/
def execWrViVSync (value : Word) (s : State) : Host.Outcome State Fault Refusal :=
  writeRegister .viVSync value s

/-- `WR VI_H_SYNC` (R123): stores verbatim. -/
def execWrViHSync (value : Word) (s : State) : Host.Outcome State Fault Refusal :=
  writeRegister .viHSync value s

/-- `WR VI_LEAP` (R124): stores verbatim. -/
def execWrViLeap (value : Word) (s : State) : Host.Outcome State Fault Refusal :=
  writeRegister .viLeap value s

/-- `WR VI_H_START` (R125): stores and recomputes the RenderArea. -/
def execWrViHStart (value : Word) (s : State) : Host.Outcome State Fault Refusal :=
  writeRegister .viHStart value s

/-- `WR VI_V_START` (R126): stores and recomputes the RenderArea. -/
def execWrViVStart (value : Word) (s : State) : Host.Outcome State Fault Refusal :=
  writeRegister .viVStart value s

/-- `WR VI_V_BURST` (R127): stores verbatim. -/
def execWrViVBurst (value : Word) (s : State) : Host.Outcome State Fault Refusal :=
  writeRegister .viVBurst value s

/-- `WR VI_X_SCALE` (R128): stores and recomputes the RenderArea. -/
def execWrViXScale (value : Word) (s : State) : Host.Outcome State Fault Refusal :=
  writeRegister .viXScale value s

/-- `WR VI_Y_SCALE` (R129): stores and recomputes the RenderArea. -/
def execWrViYScale (value : Word) (s : State) : Host.Outcome State Fault Refusal :=
  writeRegister .viYScale value s

/-- `WR <out of range>` (R131): the value is not used. -/
def execWrOutOfRange (address _value : Word) (s : State) : Host.Outcome State Fault Refusal :=
  accessOutOfRange address s

end Sys2Proof.Machine
end

