-- ==== Sys2Proof/Machine/Dispatch.lean ====
section
/-! DEFINITION. `exec`: the meaning of every operation, one arm for each constructor of `Instr`. -/

namespace Sys2Proof.Machine

def exec (i : Instr) (s : State) : Host.Outcome State Fault Refusal :=
  match i with
  | .step => Sys2Proof.Machine.execStep s
  | .rdViStatus _ => Sys2Proof.Machine.execRdViStatus s
  | .rdViOrigin _ => Sys2Proof.Machine.execRdViOrigin s
  | .rdViWidth _ => Sys2Proof.Machine.execRdViWidth s
  | .rdViIntr _ => Sys2Proof.Machine.execRdViIntr s
  | .rdViCurrent _ => Sys2Proof.Machine.execRdViCurrent s
  | .rdViBurst _ => Sys2Proof.Machine.execRdViBurst s
  | .rdViVSync _ => Sys2Proof.Machine.execRdViVSync s
  | .rdViHSync _ => Sys2Proof.Machine.execRdViHSync s
  | .rdViLeap _ => Sys2Proof.Machine.execRdViLeap s
  | .rdViHStart _ => Sys2Proof.Machine.execRdViHStart s
  | .rdViVStart _ => Sys2Proof.Machine.execRdViVStart s
  | .rdViVBurst _ => Sys2Proof.Machine.execRdViVBurst s
  | .rdViXScale _ => Sys2Proof.Machine.execRdViXScale s
  | .rdViYScale _ => Sys2Proof.Machine.execRdViYScale s
  | .rdOutOfRange a => Sys2Proof.Machine.execRdOutOfRange a s
  | .wrViStatus _ v => Sys2Proof.Machine.execWrViStatus v s
  | .wrViOrigin _ v => Sys2Proof.Machine.execWrViOrigin v s
  | .wrViWidth _ v => Sys2Proof.Machine.execWrViWidth v s
  | .wrViIntr _ v => Sys2Proof.Machine.execWrViIntr v s
  | .wrViCurrent _ v => Sys2Proof.Machine.execWrViCurrent v s
  | .wrViBurst _ v => Sys2Proof.Machine.execWrViBurst v s
  | .wrViVSync _ v => Sys2Proof.Machine.execWrViVSync v s
  | .wrViHSync _ v => Sys2Proof.Machine.execWrViHSync v s
  | .wrViLeap _ v => Sys2Proof.Machine.execWrViLeap v s
  | .wrViHStart _ v => Sys2Proof.Machine.execWrViHStart v s
  | .wrViVStart _ v => Sys2Proof.Machine.execWrViVStart v s
  | .wrViVBurst _ v => Sys2Proof.Machine.execWrViVBurst v s
  | .wrViXScale _ v => Sys2Proof.Machine.execWrViXScale v s
  | .wrViYScale _ v => Sys2Proof.Machine.execWrViYScale v s
  | .wrOutOfRange a v => Sys2Proof.Machine.execWrOutOfRange a v s
  | .create => Sys2Proof.Machine.execCreate s
  | .connect => Sys2Proof.Machine.execConnect s
  | .destroy => Sys2Proof.Machine.execDestroy s

end Sys2Proof.Machine
end

