-- ==== Sys2Proof/Machine/Step.lean ====
section
/-! DEFINITION. One step of the machine: the host's next operation is taken, decoded and performed. -/

namespace Sys2Proof.Machine

/-- Operations are performed one at a time, in the order the host issues them (R62). Where the host has issued
none, nothing happens: "the block does nothing on its own" (R253). A word that spells no operation is
refused (R75, R80). -/
def step (s : State) : Host.Outcome State Fault Refusal :=
  match takeRequest s with
  | none => .next s
  | some (word, s') =>
    match decode s'.config word with
    | .ok i => exec i s'
    | .error _ => .refused (.noSuchOperation word)

/-- `s` with the given transaction word as the host's next operation, its operands without a bit-level form as
they stand in `s` (log entry 1). -/
def State.withFetchWord (s : State) (nbits w : Nat) : State :=
  { s with inbox := ⟨tableWord nbits w, s.presenterFails, s.busOperand⟩ :: s.inbox }

end Sys2Proof.Machine
end

