-- ==== Sys2Proof/Safety.lean ====
section
/-! DEFINITION. What counts as a safe run and as a legal state, in the terms the statements use. -/

namespace Sys2Proof.Machine

/-- The addressed device is `d`, it exists and is not halted: where every operation has its own effect
(R140, R214). -/
abbrev Running (s : State) (d : Device) : Prop := s.device = some d ∧ d.halted = none

/-- The run has gone wrong: the addressed device is halted, and a halted state is never a successful end
(R214, R253). -/
def Failed (s : State) : Prop := ∃ d c, s.device = some d ∧ d.halted = some c

/-- A run ends well only by `DESTROY` on a device that is not halted (R253). -/
def EndsWell (s : State) (i : Instr) : Prop := i = .destroy ∧ ∃ d, Running s d

/-- A sequence of operations in the host's order (R62), up to the first that has no next state. -/
def runOps : List Instr → State → Host.Outcome State Fault Refusal
  | [], s => .next s
  | i :: is, s =>
    match exec i s with
    | .next t => runOps is t
    | .fault r => .fault r
    | .refused r => .refused r

/-- What an event does to the level of the interrupt as the history shows it. -/
def Event.level (before : Bool) : Event → Bool
  | .raiseIrq _ => true
  | .clearIrq _ => false
  | .present _ => before
  | .fatal _ => before

/-- Whether the last event among `RaiseIrq` and `ClearIrq` in a history is a `RaiseIrq` (R241 (d)). -/
def irqLevel (history : List Event) : Bool := history.foldl Event.level false

/-- Whether an event is a `RaiseIrq`. -/
def Event.isRaise : Event → Bool
  | .raiseIrq _ => true
  | .clearIrq _ => false
  | .present _ => false
  | .fatal _ => false

/-- The number of `RaiseIrq` events in a history. -/
def raises (history : List Event) : Nat := history.countP Event.isRaise

/-- The invariants of R241 for one device and its output history. -/
def DeviceOk (c : Config) (d : Device) (history : List Event) : Prop :=
  d.cyclesRemaining ≤ c.reload ∧ d.ra = d.regs.renderArea c.variant ∧ d.regs.viCurrent = 0#32 ∧
    d.irq = irqLevel history

/-- The invariants of R241, for the addressed device and for every other, in a configuration that meets the
constraints of R8. -/
def BlockInv (s : State) : Prop :=
  validConfig s.config = true ∧ (∀ d, s.device = some d → DeviceOk s.config d s.history) ∧
    ∀ p ∈ s.others, DeviceOk s.config p.device p.history

/-- The register an operation writes to, if it is an in-range `WRITE` (R116 to R129). -/
def writtenReg : Instr → Option RegName
  | .step => none
  | .rdViStatus _ => none
  | .rdViOrigin _ => none
  | .rdViWidth _ => none
  | .rdViIntr _ => none
  | .rdViCurrent _ => none
  | .rdViBurst _ => none
  | .rdViVSync _ => none
  | .rdViHSync _ => none
  | .rdViLeap _ => none
  | .rdViHStart _ => none
  | .rdViVStart _ => none
  | .rdViVBurst _ => none
  | .rdViXScale _ => none
  | .rdViYScale _ => none
  | .rdOutOfRange _ => none
  | .wrViStatus _ _ => some .viStatus
  | .wrViOrigin _ _ => some .viOrigin
  | .wrViWidth _ _ => some .viWidth
  | .wrViIntr _ _ => some .viIntr
  | .wrViCurrent _ _ => some .viCurrent
  | .wrViBurst _ _ => some .viBurst
  | .wrViVSync _ _ => some .viVSync
  | .wrViHSync _ _ => some .viHSync
  | .wrViLeap _ _ => some .viLeap
  | .wrViHStart _ _ => some .viHStart
  | .wrViVStart _ _ => some .viVStart
  | .wrViVBurst _ _ => some .viVBurst
  | .wrViXScale _ _ => some .viXScale
  | .wrViYScale _ _ => some .viYScale
  | .wrOutOfRange _ _ => none
  | .create => none
  | .connect => none
  | .destroy => none

/-- The register an operation reads, if it is an in-range `READ` (R102 to R115). -/
def readReg : Instr → Option RegName
  | .step => none
  | .rdViStatus _ => some .viStatus
  | .rdViOrigin _ => some .viOrigin
  | .rdViWidth _ => some .viWidth
  | .rdViIntr _ => some .viIntr
  | .rdViCurrent _ => some .viCurrent
  | .rdViBurst _ => some .viBurst
  | .rdViVSync _ => some .viVSync
  | .rdViHSync _ => some .viHSync
  | .rdViLeap _ => some .viLeap
  | .rdViHStart _ => some .viHStart
  | .rdViVStart _ => some .viVStart
  | .rdViVBurst _ => some .viVBurst
  | .rdViXScale _ => some .viXScale
  | .rdViYScale _ => some .viYScale
  | .rdOutOfRange _ => none
  | .wrViStatus _ _ => none
  | .wrViOrigin _ _ => none
  | .wrViWidth _ _ => none
  | .wrViIntr _ _ => none
  | .wrViCurrent _ _ => none
  | .wrViBurst _ _ => none
  | .wrViVSync _ _ => none
  | .wrViHSync _ _ => none
  | .wrViLeap _ _ => none
  | .wrViHStart _ _ => none
  | .wrViVStart _ _ => none
  | .wrViVBurst _ _ => none
  | .wrViXScale _ _ => none
  | .wrViYScale _ _ => none
  | .wrOutOfRange _ _ => none
  | .create => none
  | .connect => none
  | .destroy => none

/-- The value operand of a `WRITE` (R73). -/
def writtenValue : Instr → Option Word
  | .step => none
  | .rdViStatus _ => none
  | .rdViOrigin _ => none
  | .rdViWidth _ => none
  | .rdViIntr _ => none
  | .rdViCurrent _ => none
  | .rdViBurst _ => none
  | .rdViVSync _ => none
  | .rdViHSync _ => none
  | .rdViLeap _ => none
  | .rdViHStart _ => none
  | .rdViVStart _ => none
  | .rdViVBurst _ => none
  | .rdViXScale _ => none
  | .rdViYScale _ => none
  | .rdOutOfRange _ => none
  | .wrViStatus _ v => some v
  | .wrViOrigin _ v => some v
  | .wrViWidth _ v => some v
  | .wrViIntr _ v => some v
  | .wrViCurrent _ v => some v
  | .wrViBurst _ v => some v
  | .wrViVSync _ v => some v
  | .wrViHSync _ v => some v
  | .wrViLeap _ v => some v
  | .wrViHStart _ v => some v
  | .wrViVStart _ v => some v
  | .wrViVBurst _ v => some v
  | .wrViXScale _ v => some v
  | .wrViYScale _ v => some v
  | .wrOutOfRange _ v => some v
  | .create => none
  | .connect => none
  | .destroy => none

end Sys2Proof.Machine
end

