-- ==== Sys2Proof/Certificates/Slice0/Obligations.lean ====
section
/-! DEFINITION. The statements for the provers. Where a clause rests on a decision or an inference that the spec
marks as its own, the docstring says so. -/

open Sys2Proof Sys2Proof.Machine

namespace Sys2Proof.Machine

/-- `t` is `s` with `v` in the slot of `r` and nothing else changed: every other slot, the counter, the
RenderArea, the interrupt level, the Bus, the output and the rest of the machine are as before. -/
def StoresOnly (r : RegName) (v : Word) (s t : State) (d : Device) : Prop :=
  ∃ d', t = { s with device := some d' } ∧ d' = { d with regs := d'.regs } ∧
    d'.regs.read r = v ∧ ∀ q, q ≠ r → d'.regs.read q = d.regs.read q

/-- `t` is `s` with `v` in the slot of `r`, the RenderArea derived from the registers as they stand after the
store, by the configuration's formula set, and nothing else changed. -/
def StoresAndDerives (r : RegName) (v : Word) (s t : State) (d : Device) : Prop :=
  ∃ d', t = { s with device := some d' } ∧ d' = { d with regs := d'.regs, ra := d'.ra } ∧
    d'.regs.read r = v ∧ (∀ q, q ≠ r → d'.regs.read q = d.regs.read q) ∧
    d'.ra = deriveRenderArea s.config.variant (d'.regs.read .viHStart) (d'.regs.read .viVStart)
      (d'.regs.read .viXScale) (d'.regs.read .viYScale) (d'.regs.read .viWidth)

/-- `op` is a plain `READ` of `r`: at every address it returns the slot and changes nothing else, and the value
is 0 if no `WRITE` to `r` was performed since `CREATE`, and the last value that `wr` wrote otherwise. -/
def ReadsItsSlot (op : Word → Instr) (wr : Word → Word → Instr) (r : RegName) : Prop :=
  (∀ s d a, Running s d →
    exec (op a) s = .next { s with replies := s.replies ++ [.value (d.regs.read r)] }) ∧
  (∀ c ops s d a, (∀ o ∈ ops, o ≠ .create ∧ writtenReg o ≠ some r) →
    runOps ops (State.resetOf c) = .next s → Running s d →
    exec (op a) s = .next { s with replies := s.replies ++ [.value 0#32] }) ∧
  ∀ ops s t t' d d' a b v, Running s d → exec (wr b v) s = .next t →
    (∀ o ∈ ops, o ≠ .create ∧ writtenReg o ≠ some r) →
    runOps ops t = .next t' → Running t' d' →
    exec (op a) t' = .next { t' with replies := t'.replies ++ [.value v] }

/-- `s` with `v` in the slot of `r` of the addressed device. -/
def withSlot (r : RegName) (v : Word) (s : State) : State :=
  { s with device := s.device.map fun d => { d with regs := d.regs.write r v } }

/-- `f` applied to the next state, if there is one. -/
def onNext (f : State → State) :
    Host.Outcome State Fault Refusal → Host.Outcome State Fault Refusal
  | .next t => .next (f t)
  | .fault r => .fault r
  | .refused r => .refused r

/-- `op` stores its value in `r` and does nothing else, and no other operation's effect depends on what the slot
of `r` holds. -/
def StorageOnly (op : Word → Word → Instr) (r : RegName) : Prop :=
  (∀ s d a v, Running s d → ∃ t, exec (op a v) s = .next t ∧ StoresOnly r v s t d) ∧
  ∀ s v i, i ≠ .create → readReg i ≠ some r → writtenReg i ≠ some r →
    exec i (withSlot r v s) = onNext (withSlot r v) (exec i s)

end Sys2Proof.Machine

/-- The state after `CREATE` (R47, R240). The counter, `irq`, `halted` and `busBound` rest on the spec's own decisions D8, D22, D23 and D24. -/
def Obligations.ResetLeavesTheStatedState : Prop :=
  (∀ c, ∃ d, (State.resetOf c).device = some d ∧ (∀ r, d.regs.read r = 0#32) ∧
    d.cyclesRemaining = c.reload ∧
    d.ra = { xStart := 0#32, xEnd := 0#32, yStart := 0#32, yEnd := 0#32, width := 0#32, height := 0#32, hskip := 0#32 } ∧
    d.irq = false ∧ d.halted = none ∧ d.busBound = false ∧
    (State.resetOf c).history = [] ∧ (State.resetOf c).replies = [] ∧ (State.resetOf c).config = c) ∧
  State.reset = State.resetOf defaultConfig

/-- One step is one operation of the host, in the order it issues them (R62). The inbox is the model's own (log entry 1). -/
def Obligations.StepPerformsTheDecodedOperation : Prop :=
  ∀ s r rest i, s.inbox = r :: rest → decode s.config r.word = .ok i →
    step s = exec i { s with inbox := rest, presenterFails := r.presenterFails, busOperand := r.bus }

/-- The block does nothing on its own (R253), and `LIFE` with sub-operation 3 spells no operation (R75). The word is the spec's own convention (D30), the inbox the model's (log entry 1). -/
def Obligations.StepWithoutAnOperation : Prop :=
  (∀ s, s.inbox = [] → step s = .next s) ∧
  ∀ s r rest, s.inbox = r :: rest → r.word.extractLsb' 64 2 = 3#2 → r.word.extractLsb' 32 2 = 3#2 →
    step s = .refused (.noSuchOperation r.word)

/-- Decode vectors of spec/95_test_vectors.md section 7 (the transaction word is the spec's own convention, D30). -/
def Obligations.SampleWordsDecodeAsWritten : Prop :=
  decode defaultConfig 0x00000000000000000#66 = .ok .step ∧
  decode defaultConfig 0x0DEADBEEF12345678#66 = .ok .step ∧
  decode defaultConfig 0x10440001000000000#66 = .ok (.rdViCurrent 0x04400010#32) ∧
  decode defaultConfig 0x10440001300000000#66 = .ok (.rdViCurrent 0x04400013#32) ∧
  decode defaultConfig 0x20440000000000002#66 = .ok (.wrViStatus 0x04400000#32 2#32) ∧
  decode defaultConfig 0x20440000600000140#66 = .ok (.wrViOrigin 0x04400006#32 0x140#32) ∧
  decode defaultConfig 0x204400038DEADBEEF#66 = .ok (.wrOutOfRange 0x04400038#32 0xDEADBEEF#32) ∧
  decode defaultConfig 0x10440003800000000#66 = .ok (.rdOutOfRange 0x04400038#32) ∧
  decode defaultConfig 0x30000000000000000#66 = .ok .create ∧
  decode defaultConfig 0x30000000100000000#66 = .ok .connect ∧
  decode defaultConfig 0x3FFFFFFFE00000000#66 = .ok .destroy ∧
  decode defaultConfig 0x30000000300000000#66 = .error .lifeSubOperationThree

/-- Decode and encode agree on every well-formed operation (R71 to R76, D30). -/
def Obligations.DecodeReadsBackEveryEncoding : Prop :=
  ∀ c i, WellFormed c i = true → decode c (encode i) = .ok i

/-- Decode is total (R80, an inference the spec marks as its own). -/
def Obligations.DecodedOperationsAreWellFormed : Prop :=
  (∀ c t i, decode c t = .ok i → WellFormed c i = true) ∧
  ∀ c t, (∃ e, decode c t = .error e) ↔ t.extractLsb' 64 2 = 3#2 ∧ t.extractLsb' 32 2 = 3#2

/-- The opcode table read by mask and match agrees with the decoder (R71, R79, R80; an inference the spec marks as its own). -/
def Obligations.EveryWordSelectsItsTableRow : Prop :=
  ∀ t, match decode defaultConfig t with
    | .ok i => (rowsSelected t).map OpcodeRow.mnemonic = [i.mnemonic]
    | .error _ => rowsSelected t = []

/-- The decode of R76 as the bit test of R77 (an inference the spec marks as its own; D1, D2, D4). -/
def Obligations.AddressDecodeIsTheBitTest : Prop :=
  (∀ a, inRange defaultConfig a = true ↔
      a &&& 0xFFFFFFC0#32 = 0x04400000#32 ∧ ((a >>> 2) &&& 0xF#32).toNat ≤ 13) ∧
  (∀ a r, regOf defaultConfig a = some r ↔
      a &&& 0xFFFFFFC0#32 = 0x04400000#32 ∧ ((a >>> 2) &&& 0xF#32).toNat = defaultConfig.index r) ∧
  (∀ a r, regOf defaultConfig a = some r ↔ a &&& 0xFFFFFFFC#32 = defaultConfig.viBase + BitVec.ofNat 32 (4 * defaultConfig.index r)) ∧
  ∀ a, regOf defaultConfig a = none ↔ inRange defaultConfig a = false

/-- R161 and R162, on numbers: division and remainder, not shifts and masks. The third clause is R163's halving, rounded
down by the spec's own decision D13 (log entry 14). -/
def Obligations.StartAndEndAreTenBitFields : Prop :=
  (∀ h v xs ys w, (deriveRenderArea .A h v xs ys w).xStart.toNat = h.toNat / 2 ^ 16 % 2 ^ 10 ∧
      (deriveRenderArea .A h v xs ys w).xEnd.toNat = h.toNat % 2 ^ 10) ∧
  (∀ reg : Word, (startField reg).toNat = reg.toNat / 2 ^ 16 % 2 ^ 10 ∧ (startField reg).toNat ≤ 1023 ∧
      (endField reg).toNat = reg.toNat % 2 ^ 10 ∧ (endField reg).toNat ≤ 1023) ∧
  (∀ h v xs ys w, (deriveRenderArea .A h v xs ys w).yStart = startField v >>> 1 ∧
      (deriveRenderArea .A h v xs ys w).yEnd = endField v >>> 1) ∧
  (startField 0x00A003E0#32).toNat = 160 ∧ (endField 0x00A003E0#32).toNat = 992

/-- R160 on integers. Rounding, order, clamp direction and the wrap of the skip are the spec's own decisions D13, D14, D15. -/
def Obligations.RenderAreaFollowsTheFormula : Prop :=
  ∀ h v xs ys w : Word,
    let ra := deriveRenderArea .A h v xs ys w
    let xStart : Int := h.toNat / 2 ^ 16 % 2 ^ 10
    let xEnd : Int := h.toNat % 2 ^ 10
    let yStart : Int := (v.toNat / 2 ^ 16 % 2 ^ 10) / 2
    let yEnd : Int := (v.toNat % 2 ^ 10) / 2
    let rawW : Int := (((xs.toNat % 2 ^ 12 : Nat) : Int) * (xEnd - xStart)).tdiv 1024
    let rawH : Int := (((ys.toNat % 2 ^ 12 : Nat) : Int) * (yEnd - yStart)).tdiv 1024
    ra.xStart.toInt = xStart ∧ ra.xEnd.toInt = xEnd ∧ ra.yStart.toInt = yStart ∧ ra.yEnd.toInt = yEnd ∧
      ra.width.toInt = min rawW 640 ∧ ra.height.toInt = min rawH 480 ∧
      ra.hskip.toInt = ((w.toNat : Int) - min rawW 640).bmod (2 ^ 32)

/-- The ranges of R38 and the clamp of R166 (on the spec's own decisions D13 and D14). -/
def Obligations.RenderAreaStaysInItsRanges : Prop :=
  ∀ h v xs ys w : Word,
    let ra := deriveRenderArea .A h v xs ys w
    (0 ≤ ra.xStart.toInt ∧ ra.xStart.toInt ≤ 1023) ∧ (0 ≤ ra.xEnd.toInt ∧ ra.xEnd.toInt ≤ 1023) ∧
      (0 ≤ ra.yStart.toInt ∧ ra.yStart.toInt ≤ 511) ∧ (0 ≤ ra.yEnd.toInt ∧ ra.yEnd.toInt ≤ 511) ∧
      (-4091 ≤ ra.width.toInt ∧ ra.width.toInt ≤ 640) ∧ (-2043 ≤ ra.height.toInt ∧ ra.height.toInt ≤ 480) ∧
      (640 < scaledExtent (scaleField xs) ra.xStart ra.xEnd → ra.width.toInt = 640) ∧
      (480 < scaledExtent (scaleField ys) ra.yStart ra.yEnd → ra.height.toInt = 480)

/-- R169 (an inference the spec marks as its own). -/
def Obligations.RenderAreaDependsOnItsFieldsOnly : Prop :=
  ∀ h h' v v' xs xs' ys ys' w w' : Word,
    h.extractLsb' 16 10 = h'.extractLsb' 16 10 → h.extractLsb' 0 10 = h'.extractLsb' 0 10 →
    v.extractLsb' 16 10 = v'.extractLsb' 16 10 → v.extractLsb' 0 10 = v'.extractLsb' 0 10 →
    xs.extractLsb' 0 12 = xs'.extractLsb' 0 12 → ys.extractLsb' 0 12 = ys'.extractLsb' 0 12 →
    deriveRenderArea .A h' v' xs' ys' w' =
        { deriveRenderArea .A h v xs ys w with hskip := (deriveRenderArea .A h' v' xs' ys' w').hskip } ∧
      ((deriveRenderArea .A h' v' xs' ys' w').hskip = (deriveRenderArea .A h v xs ys w).hskip ↔ w = w')

/-- The outcome table of R192 with the descriptor of R188 (order D18, width D17, tests D19, pointer D25: decisions the spec marks as its own). -/
def Obligations.DecodeFrameFollowsTheOutcomeTable : Prop :=
  ∀ (ra : RenderArea) (origin status : Word) (base : Nat),
    let fmt := status.toNat % 4
    let offset := origin.toNat % 2 ^ 24
    let empty := offset = 0 ∨ ra.width.toInt ≤ 0 ∨ ra.height.toInt ≤ 0
    let frame (format : PixelFormat) (bpp : Nat) (f : FrameDescriptor) : Prop :=
      f.format = format ∧ f.bytesPerPixel = bpp ∧ f.height = ra.height ∧ f.dataPointer = base + offset ∧
        f.sourceWidthIncludingSkip.toInt = (ra.width.toInt + ra.hskip.toInt).bmod (2 ^ 32)
    (fmt = 0 → decodeFrame ra origin status base = .decline) ∧
      (fmt = 1 → decodeFrame ra origin status base = .reservedFormat) ∧
      (2 ≤ fmt → empty → decodeFrame ra origin status base = .decline) ∧
      (fmt = 2 → ¬ empty → ∃ f, decodeFrame ra origin status base = .descriptor f ∧ frame .rgba5551 2 f) ∧
      (fmt = 3 → ¬ empty → ∃ f, decodeFrame ra origin status base = .descriptor f ∧ frame .rgba8888 4 f)

/-- R188 and R189 on a coherent RenderArea (decisions D13, D15, D17, D19, D25 of the spec). -/
def Obligations.DescriptorOfARegisterArray : Prop :=
  ∀ (k : Variant) (x : Regs) (base : Nat) (f : FrameDescriptor),
    decodeFrame (x.renderArea k) (x.read .viOrigin) (x.read .viStatus) base = .descriptor f →
    f.sourceWidthIncludingSkip = x.read .viWidth ∧ 1 ≤ f.height.toInt ∧ f.height.toInt ≤ 480 ∧
      base + 1 ≤ f.dataPointer ∧ f.dataPointer ≤ base + 0xFFFFFF ∧
      (f.format = .rgba5551 ∧ f.bytesPerPixel = 2 ∨ f.format = .rgba8888 ∧ f.bytesPerPixel = 4)

/-- `STEP` that begins with a nonzero counter (R140, R142, R146); no Bus is needed (R203, D24). -/
def Obligations.StepOffExpiryOnlyDecrements : Prop :=
  ∀ s d, Running s d → d.cyclesRemaining ≠ 0#32 →
    ∃ c : Word, exec .step s = .next { s with device := some { d with cyclesRemaining := c } } ∧
      c.toNat + 1 = d.cyclesRemaining.toNat

/-- R182. The clause that the counter ends at `RELOAD - 1` is R145 and R146. -/
def Obligations.BlankExpiryOnlyRaisesTheInterrupt : Prop :=
  (∀ s d, Running s d → d.cyclesRemaining = 0#32 → d.busBound = true →
      (d.regs.read .viStatus).toNat % 4 = 0 →
      exec .step s = .next { s with
        device := some { d with irq := true, cyclesRemaining := s.config.reload - 1#32 }
        history := s.history ++ [.raiseIrq s.config.intrLine] }) ∧
  ∀ c d, (State.resetOf c).device = some d → (d.regs.read .viStatus).toNat % 4 = 0

/-- R186, R187, R221 (what is tested is the spec's own decision D19). -/
def Obligations.EmptyFrameExpiryOnlyRaisesTheInterrupt : Prop :=
  ∀ s d, Running s d → d.cyclesRemaining = 0#32 → d.busBound = true →
    2 ≤ (d.regs.read .viStatus).toNat % 4 →
    ((d.regs.read .viOrigin).toNat % 2 ^ 24 = 0 ∨ d.ra.width.toInt ≤ 0 ∨ d.ra.height.toInt ≤ 0) →
    exec .step s = .next { s with
      device := some { d with irq := true, cyclesRemaining := s.config.reload - 1#32 }
      history := s.history ++ [.raiseIrq s.config.intrLine] }

/-- R140, R143 to R146, R188, R189 (descriptor width D17, tests D19, memory base D25: the spec's own decisions). -/
def Obligations.ExpiryPresentsThenRaises : Prop :=
  ∀ s d b, Running s d → d.cyclesRemaining = 0#32 → d.bus = some b →
    2 ≤ (d.regs.read .viStatus).toNat % 4 → (d.regs.read .viOrigin).toNat % 2 ^ 24 ≠ 0 →
    0 < d.ra.width.toInt → 0 < d.ra.height.toInt →
    exec .step s = .next { s with
      device := some { d with irq := true, cyclesRemaining := s.config.reload - 1#32 }
      history := s.history ++
        [.present
          { format := if (d.regs.read .viStatus).toNat % 4 = 2 then .rgba5551 else .rgba8888
            sourceWidthIncludingSkip := d.ra.width + d.ra.hskip
            height := d.ra.height
            bytesPerPixel := if (d.regs.read .viStatus).toNat % 4 = 2 then 2 else 4
            dataPointer := s.config.memBase b + (d.regs.read .viOrigin).toNat % 2 ^ 24 },
          .raiseIrq s.config.intrLine] }

/-- R183, with its example of a program that passes through the reserved selector. The first clause rests on the spec's
own decisions D22 (log entry 8), D21 and D18 (log entry 15). -/
def Obligations.ReservedFormatHaltsAtTheExpiryOnly : Prop :=
  (∀ s d, Running s d → d.cyclesRemaining = 0#32 → d.busBound = true →
      (d.regs.read .viStatus).toNat % 4 = 1 →
      ∃ t d', exec .step s = .next t ∧ t.device = some d' ∧ d'.halted = some .reservedFormat ∧
        t.history = s.history ++ [.fatal .reservedFormat]) ∧
  (∀ s d, Running s d → d.cyclesRemaining ≠ 0#32 → (d.regs.read .viStatus).toNat % 4 = 1 →
      ∃ t d', exec .step s = .next t ∧ Running t d') ∧
  (∀ s d a v, Running s d → ∃ t d', exec (.wrViStatus a v) s = .next t ∧ Running t d') ∧
  ∀ s d a b u v, Running s d → d.cyclesRemaining = 0#32 → d.busBound = true → v.toNat % 4 ≠ 1 →
    ∃ t d', runOps [.wrViStatus a u, .wrViStatus b v, .step] s = .next t ∧ Running t d'

/-- R147 (an inference the spec marks as its own). -/
def Obligations.CounterAndInterruptsAfterSteps : Prop :=
  ∀ s d n, s.config.reload ≠ 0#32 → Running s d → d.busBound = true → d.cyclesRemaining = s.config.reload →
    (d.regs.read .viStatus).toNat % 4 ≠ 1 → 1 ≤ n →
    ∃ t d', runOps (List.replicate n .step) s = .next t ∧ Running t d' ∧
      d'.cyclesRemaining.toNat = s.config.reload.toNat - 1 - (n - 1) % s.config.reload.toNat ∧
      raises t.history = raises s.history + (n - 1) / s.config.reload.toNat

/-- R229: the timing contract holds for every interleaving. -/
def Obligations.InterruptEveryReloadSteps : Prop :=
  ∀ ops s t d d', s.config.reload ≠ 0#32 → (∀ o ∈ ops, o ≠ .create) → runOps ops s = .next t → Running s d → Running t d' →
    d.cyclesRemaining ≤ s.config.reload →
    raises t.history = raises s.history +
        (ops.count .step + s.config.reload.toNat - 1 - d.cyclesRemaining.toNat) / s.config.reload.toNat ∧
      (ops.count .step = s.config.reload.toNat → d.cyclesRemaining < s.config.reload →
        raises t.history = raises s.history + 1)

/-- R203 (the spec's own decision D24). -/
def Obligations.BusIsNeededForExpiryAndAcknowledge : Prop :=
  (∀ s d, Running s d → d.busBound = false → d.cyclesRemaining = 0#32 →
      exec .step s = .refused .busNotConnected) ∧
  ∀ s d a v, Running s d → d.busBound = false → exec (.wrViCurrent a v) s = .refused .busNotConnected

/-- The plain reads of the first seven words of the window (R102 to R105, R107, R108). -/
def Obligations.LowRegisterReadsReturnTheSlot : Prop :=
  ReadsItsSlot .rdViStatus .wrViStatus .viStatus ∧
  ReadsItsSlot .rdViOrigin .wrViOrigin .viOrigin ∧
  ReadsItsSlot .rdViWidth .wrViWidth .viWidth ∧
  ReadsItsSlot .rdViIntr .wrViIntr .viIntr ∧
  ReadsItsSlot .rdViBurst .wrViBurst .viBurst ∧
  ReadsItsSlot .rdViVSync .wrViVSync .viVSync

/-- The plain reads of the last seven words of the window (R109 to R115). -/
def Obligations.HighRegisterReadsReturnTheSlot : Prop :=
  ReadsItsSlot .rdViHSync .wrViHSync .viHSync ∧
  ReadsItsSlot .rdViLeap .wrViLeap .viLeap ∧
  ReadsItsSlot .rdViHStart .wrViHStart .viHStart ∧
  ReadsItsSlot .rdViVStart .wrViVStart .viVStart ∧
  ReadsItsSlot .rdViVBurst .wrViVBurst .viVBurst ∧
  ReadsItsSlot .rdViXScale .wrViXScale .viXScale ∧
  ReadsItsSlot .rdViYScale .wrViYScale .viYScale

/-- R106 and R213 on numbers (the arithmetic is the spec's own decision D10, the fault D11). -/
def Obligations.CurrentReadSynthesizesTheScanline : Prop :=
  (∀ s d a, Running s d → d.regs.read .viVSync = 0#32 →
      exec (.rdViCurrent a) s = .next { s with replies := s.replies ++ [.value 0#32] }) ∧
  (∀ s d a, Running s d → d.regs.read .viVSync ≠ 0#32 → d.regs.read .viVSync ≤ s.config.reload →
      ∃ v : Word, exec (.rdViCurrent a) s = .next { s with replies := s.replies ++ [.value v] } ∧
        v.toNat % 2 = 0 ∧
        (d.cyclesRemaining ≤ s.config.reload →
          v.toNat = (s.config.reload.toNat - d.cyclesRemaining.toNat) /
            (s.config.reload.toNat / (d.regs.read .viVSync).toNat) / 2 * 2)) ∧
  ∀ s d a, Running s d → s.config.reload < d.regs.read .viVSync →
    exec (.rdViCurrent a) s = .next { s with
      device := some { d with halted := some .scanlineDivideByZero }
      history := s.history ++ [.fatal .scanlineDivideByZero] }

/-- R58 (its last clause is an inference the spec marks as its own). -/
def Obligations.ReadsChangeNoDeviceState : Prop :=
  ∀ i s t d, Running s d → (readReg i).isSome = true → exec i s = .next t → ¬ Failed t →
    ∃ v, t = { s with replies := s.replies ++ [.value v] } ∧
      exec i t = .next { t with replies := t.replies ++ [.value v] }

/-- R116, R117, R122: the plain registers some rule reads. -/
def Obligations.UsedPlainWritesStoreOnly : Prop :=
  (∀ s d a v, Running s d → ∃ t, exec (.wrViStatus a v) s = .next t ∧ StoresOnly .viStatus v s t d) ∧
  (∀ s d a v, Running s d → ∃ t, exec (.wrViOrigin a v) s = .next t ∧ StoresOnly .viOrigin v s t d) ∧
  ∀ s d a v, Running s d → ∃ t, exec (.wrViVSync a v) s = .next t ∧ StoresOnly .viVSync v s t d

/-- R119, R121, R123, R124, R127: stored verbatim, and "no rule of this block reads this register". -/
def Obligations.UnusedRegistersAreStorageOnly : Prop :=
  StorageOnly .wrViIntr .viIntr ∧
  StorageOnly .wrViBurst .viBurst ∧
  StorageOnly .wrViHSync .viHSync ∧
  StorageOnly .wrViLeap .viLeap ∧
  StorageOnly .wrViVBurst .viVBurst

/-- R118, R125, R126, R128, R129 (eager recomputation is the spec's own decision D16). -/
def Obligations.GeometryWritesStoreAndDerive : Prop :=
  (∀ s d a v, Running s d → ∃ t, exec (.wrViWidth a v) s = .next t ∧ StoresAndDerives .viWidth v s t d) ∧
  (∀ s d a v, Running s d → ∃ t, exec (.wrViHStart a v) s = .next t ∧ StoresAndDerives .viHStart v s t d) ∧
  (∀ s d a v, Running s d → ∃ t, exec (.wrViVStart a v) s = .next t ∧ StoresAndDerives .viVStart v s t d) ∧
  (∀ s d a v, Running s d → ∃ t, exec (.wrViXScale a v) s = .next t ∧ StoresAndDerives .viXScale v s t d) ∧
  (∀ s d a v, Running s d → ∃ t, exec (.wrViYScale a v) s = .next t ∧ StoresAndDerives .viYScale v s t d)

/-- R120. That the write is refused before `CONNECT` is stated apart (`BusIsNeededForExpiryAndAcknowledge`). -/
def Obligations.CurrentWriteAcknowledgesTheInterrupt : Prop :=
  (∀ s d a v, Running s d → d.busBound = true →
      exec (.wrViCurrent a v) s = .next { s with
        device := some { d with irq := false }
        history := s.history ++ [.clearIrq s.config.intrLine] }) ∧
  (∀ s d a b v w t, Running s d → d.busBound = true →
      exec (.rdViCurrent a) s = .next { s with replies := s.replies ++ [.value w] } →
      exec (.wrViCurrent b v) s = .next t →
      exec (.rdViCurrent a) t = .next { t with replies := t.replies ++ [.value w] }) ∧
  ∀ i s t d d', s.device = some d → exec i s = .next t → t.device = some d' → i ≠ .create →
    d.irq = true → d'.irq = false → writtenReg i = some .viCurrent

/-- R132, over runs of any length. -/
def Obligations.PlainRegistersHoldTheLastWrite : Prop :=
  (∀ r v w ops s t t' d d' i, r ≠ .viCurrent → writtenReg w = some r →
      writtenValue w = some v → Running s d → exec w s = .next t →
      (∀ o ∈ ops, o ≠ .create ∧ writtenReg o ≠ some r) →
      runOps ops t = .next t' → Running t' d' → readReg i = some r →
      d'.regs.read r = v ∧ exec i t' = .next { t' with replies := t'.replies ++ [.value v] }) ∧
  ∀ w r s t d d', writtenReg w = some r → r ∈ [.viWidth, .viHStart, .viVStart, .viXScale, .viYScale] →
    Running s d → exec w s = .next t → t.device = some d' →
    d'.ra = deriveRenderArea s.config.variant (d'.regs.read .viHStart) (d'.regs.read .viVStart)
      (d'.regs.read .viXScale) (d'.regs.read .viYScale) (d'.regs.read .viWidth)

/-- R20. -/
def Obligations.SlotsChangeOnlyByTheirWrite : Prop :=
  (∀ (x : Regs) r q v, (x.write r v).read q = if q = r then v else x.read q) ∧
  (∀ c d r, (State.resetOf c).device = some d → d.regs.read r = 0#32) ∧
  ∀ i s t d d' r, s.device = some d → exec i s = .next t → t.device = some d' → i ≠ .create →
    d'.regs.read r ≠ d.regs.read r → writtenReg i = some r ∧ r ≠ .viCurrent

/-- R130, R131, R211 with the fault entry of R214 (the spec's own decisions D6 and D22). -/
def Obligations.OutOfRangeAccessHaltsTheDevice : Prop :=
  ∀ s d a v, Running s d →
    exec (.rdOutOfRange a) s = .next { s with
        device := some { d with halted := some (.outOfRange a) }
        history := s.history ++ [.fatal (.outOfRange a)] } ∧
      exec (.wrOutOfRange a v) s = .next { s with
        device := some { d with halted := some (.outOfRange a) }
        history := s.history ++ [.fatal (.outOfRange a)] }

/-- R210 and R214 (the spec's own decisions D21 and D22). -/
def Obligations.FaultEntryIsPrecise : Prop :=
  ∀ i s t d d' c, Running s d → exec i s = .next t → t.device = some d' → d'.halted = some c →
    t = { s with
        device := some { d with halted := some c }
        history := s.history ++ [.fatal c] } ∧
      ((∃ a, c = .outOfRange a ∧ (i = .rdOutOfRange a ∨ ∃ v, i = .wrOutOfRange a v)) ∨
        (c = .reservedFormat ∧ i = .step ∧ d.cyclesRemaining = 0#32 ∧
          (d.regs.read .viStatus).toNat % 4 = 1) ∨
        (c = .scanlineDivideByZero ∧ readReg i = some .viCurrent ∧
          s.config.reload < d.regs.read .viVSync))

/-- R214 (the spec's own decision D22). -/
def Obligations.HaltedDeviceTakesNoStep : Prop :=
  ∀ i s d c, s.device = some d → d.halted = some c → i ≠ .create → i ≠ .destroy →
    exec i s = .fault (.deviceHalted c)

/-- R202: after `DESTROY` "no later operation on it has meaning" (U13). -/
def Obligations.NoDeviceNoMeaning : Prop :=
  ∀ i s, s.device = none → i ≠ .create → exec i s = .refused .noDevice

/-- R200 (reset values by D8, D22, D23, D24). That an earlier device is kept among `others` is the model's form of
"does not touch the first" (log entry 3), and that `CREATE` completes beside a halted device is the model's own choice
(second clause, log entry 8). -/
def Obligations.CreateMakesAFreshDevice : Prop :=
  (∀ s, s.presenterFails = false → s.device = none →
      exec .create s = .next { s with
        device := (State.resetOf s.config).device, history := [], replies := [] }) ∧
  ∀ s d, s.presenterFails = false → s.device = some d →
    exec .create s = .next { s with
      device := (State.resetOf s.config).device, history := [], replies := []
      others := { device := d, history := s.history, replies := s.replies } :: s.others }

/-- R204 and R222: the one recoverable failure; its cause is a free input of `CREATE` (log entry 9), its report a
reply (log entry 2). That a device already there is left as it stands is the model's own choice (log entries 3 and 9), and so
is that `CREATE` completes beside a halted one (log entry 8). -/
def Obligations.CreateFailureMakesNoDevice : Prop :=
  ∀ s, s.presenterFails = true →
    exec .create s = .next { s with replies := s.replies ++ [.createFailed] }

/-- R201 (a second `CONNECT` replaces the reference by the spec's own decision D38). -/
def Obligations.ConnectBindsTheBus : Prop :=
  ∀ s d, Running s d → ∃ d', exec .connect s = .next { s with device := some d' } ∧
    d' = { d with bus := some s.busOperand } ∧ d'.busBound = true

/-- R202 (no `ClearIrq` by the spec's own decision D32). -/
def Obligations.DestroyEndsTheDevice : Prop :=
  ∀ s d, s.device = some d → exec .destroy s = .next { s with device := none }

/-- R215: nothing of the halted device carries over (reset values by D8, D22, D23, D24). -/
def Obligations.DestroyThenCreateStartsAfresh : Prop :=
  ∀ s d, s.device = some d → s.presenterFails = false →
    runOps [.destroy, .create] s = .next { s with
      device := (State.resetOf s.config).device, history := [], replies := [] }

/-- R226: two devices share no state. The list of other devices is the model's own (log entry 3). -/
def Obligations.OtherDevicesAreUntouched : Prop :=
  ∀ i s t, exec i s = .next t →
    t.others = s.others ∨
      (i = .create ∧ ∃ d, s.device = some d ∧
        t.others = { device := d, history := s.history, replies := s.replies } :: s.others)

/-- R241 (an inference the spec marks as its own), for every state and not only those a run reaches. -/
def Obligations.StepKeepsTheInvariant : Prop :=
  ∀ s t, BlockInv s → step s = .next t → BlockInv t

/-- R241: the invariants hold after `CREATE`. -/
def Obligations.ResetMeetsTheInvariant : Prop :=
  (∀ c, validConfig c = true → BlockInv (State.resetOf c)) ∧ BlockInv State.reset

/-- R37, R141, R219: one counter, one interrupt source. -/
def Obligations.OnlyStepMovesTheCounter : Prop :=
  ∀ i s t d d', s.device = some d → exec i s = .next t → t.device = some d' → i ≠ .create →
    (i ≠ .step → d'.cyclesRemaining = d.cyclesRemaining) ∧
      (d.irq = false → d'.irq = true → i = .step ∧ d.cyclesRemaining = 0#32) ∧
      (raises t.history ≠ raises s.history →
        i = .step ∧ d.cyclesRemaining = 0#32 ∧ raises t.history = raises s.history + 1)

/-- R45, R140, R220: the order of events within one operation. -/
def Obligations.HistoryGrowsByOneOperation : Prop :=
  ∀ i s t, exec i s = .next t → i ≠ .create →
    (∃ es, t.history = s.history ++ es ∧
      (es = [] ∨ es = [.clearIrq s.config.intrLine] ∨ es = [.raiseIrq s.config.intrLine] ∨
        (∃ f, es = [.present f, .raiseIrq s.config.intrLine]) ∨ ∃ c, es = [.fatal c])) ∧
      (t.replies = s.replies ∨ ((readReg i).isSome = true ∧ ∃ v, t.replies = s.replies ++ [.value v]))

/-- The defaults of R8 and R21, the spec's own decisions D1, D2, D7 (log entries 6 and 7). -/
def Obligations.DefaultParametersAreTheSpecs : Prop :=
  defaultConfig.viBase = 0x04400000#32 ∧ defaultConfig.numRegs = 14 ∧ defaultConfig.viLen = 0x38 ∧
    defaultConfig.cyclesPerSecond = 62500000 ∧ defaultConfig.refreshHz = 60 ∧
    defaultConfig.reload = 1041667#32 ∧ validConfig defaultConfig = true ∧
    [RegName.viStatus, .viOrigin, .viWidth, .viIntr, .viCurrent, .viBurst, .viVSync, .viHSync, .viLeap,
      .viHStart, .viVStart, .viVBurst, .viXScale, .viYScale].map defaultConfig.index = List.range 14

/-- The constraints of R8 (the width of `RELOAD` is the spec's own decision D9; log entry 22). -/
def Obligations.ValidConfigurationsMeetTheConstraints : Prop :=
  ∀ c, validConfig c = true →
    c.viLen = 4 * c.numRegs ∧ c.viBase.toNat + c.viLen ≤ 2 ^ 32 ∧ 0 < c.refreshHz ∧
      c.reload.toNat = c.cyclesPerSecond / c.refreshHz + 1 ∧ 1 ≤ c.reload.toNat ∧ c.reload.toNat < 2 ^ 32

/-- The parameters of R8 are constants of the machine; the field is the model's own (log entry 22). -/
def Obligations.NoOperationChangesTheConfiguration : Prop :=
  (∀ i s t, exec i s = .next t → t.config = s.config) ∧ ∀ s t, step s = .next t → t.config = s.config

/-- R51, R76 and R81 for every configuration of R8 (D4; log entry 22). -/
def Obligations.WindowOfAnyConfiguration : Prop :=
  ∀ c, validConfig c = true →
    (∀ a, inRange c a = true ↔ c.viBase.toNat ≤ a.toNat ∧ a.toNat < c.viBase.toNat + c.viLen) ∧
      (∀ a r, regOf c a = some r ↔ r ∈ c.registers ∧ c.viBase.toNat + 4 * c.index r ≤ a.toNat ∧
        a.toNat < c.viBase.toNat + 4 * c.index r + 4) ∧
      ∀ a, regOf c a = none ↔ inRange c a = false
end

