-- ==== Sys2Proof/Laws/Decode.lean ====
section
/-! SUPPORT. The fields of a packed transaction word, and what the decoder does with each format. -/

namespace Sys2Proof

/-- Every bit of a packed word is a bit of one of its three fields. -/
theorem getLsbD_pack (k : BitVec 2) (a d : Word) (j : Nat) : (pack k a d).getLsbD j =
    if j < 32 then d.getLsbD j else if j - 32 < 32 then a.getLsbD (j - 32) else k.getLsbD (j - 32 - 32) := by
  have h : (pack k a d).getLsbD j = BitVec.getLsbD ((k ++ a : BitVec (2 + 32)) ++ d) j := rfl
  rw [h, BitVec.getLsbD_append, BitVec.getLsbD_append]

@[simp] theorem kindField_pack (k : BitVec 2) (a d : Word) : kindField (pack k a d) = k := by
  apply BitVec.eq_of_getLsbD_eq
  intro i hi
  simp [kindField, getLsbD_pack, hi, show ¬ 64 + i < 32 by omega, show ¬ 64 + i - 32 < 32 by omega,
    show 64 + i - 32 - 32 = i by omega]

@[simp] theorem addrField_pack (k : BitVec 2) (a d : Word) : addrField (pack k a d) = a := by
  apply BitVec.eq_of_getLsbD_eq
  intro i hi
  simp [addrField, getLsbD_pack, hi]

@[simp] theorem dataField_pack (k : BitVec 2) (a d : Word) : dataField (pack k a d) = d := by
  apply BitVec.eq_of_getLsbD_eq
  intro i hi
  simp [dataField, getLsbD_pack, hi]

/-- The sub-operation is the two low bits of the address field. -/
theorem subOperation_pack (k : BitVec 2) (a d : Word) :
    subOperation (pack k a d) = a.extractLsb' 0 2 := by
  apply BitVec.eq_of_getLsbD_eq
  intro i hi
  simp [subOperation, getLsbD_pack, show i < 32 by omega]

theorem formatOf_packRead (a : Word) : formatOf (packRead a) = .busRead := by
  simp [formatOf, packRead]

theorem formatOf_packWrite (a v : Word) : formatOf (packWrite a v) = .busWrite := by
  simp [formatOf, packWrite]

/-- A read word decodes to the read its address selects. -/
theorem decode_packRead (c : Config) (a : Word) : decode c (packRead a) = .ok (decodeRead c a) := by
  unfold decode
  rw [formatOf_packRead]
  simp [packRead]

/-- A write word decodes to the write its address selects, with its value. -/
theorem decode_packWrite (c : Config) (a v : Word) : decode c (packWrite a v) = .ok (decodeWrite c a v) := by
  unfold decode
  rw [formatOf_packWrite]
  simp [packWrite]

/-- The address selects a register exactly when the decoder's table says so. -/
theorem selects_iff (c : Config) (a : Word) (r : Machine.RegName) :
    selects c a r = true ↔ Machine.regOf c a = some r := by
  simp [selects]

end Sys2Proof
end

