-- ==== Sys2Proof/Laws/Operands.lean ====
section
/-! SUPPORT. The constraints on a configuration, and the address decode as arithmetic on the window offset. -/

namespace Sys2Proof.Machine

/-- The constraints of R8, one by one. -/
theorem validConfig_iff (c : Config) : validConfig c = true ↔
    c.registers.Nodup ∧ (∀ r ∈ namedRegs, r ∈ c.registers) ∧ c.viBase.toNat % 4 = 0 ∧
      c.viBase.toNat + c.viLen ≤ 2 ^ 32 ∧ 0 < c.refreshHz ∧ c.cyclesPerSecond / c.refreshHz + 1 < 2 ^ 32 := by
  simp only [validConfig, Bool.and_eq_true, decide_eq_true_eq, List.all_eq_true, List.contains_iff_mem,
    beq_iff_eq, and_assoc]

/-- In a valid configuration `RELOAD` is not cut by its 32 bits (R8, D9). -/
theorem reload_toNat {c : Config} (h : validConfig c = true) :
    c.reload.toNat = c.cyclesPerSecond / c.refreshHz + 1 := by
  rw [Config.reload, BitVec.toNat_ofNat, Nat.mod_eq_of_lt ((validConfig_iff c).1 h).2.2.2.2.2]

/-- In a valid configuration `RELOAD` is at least 1 (R8). -/
theorem reload_pos {c : Config} (h : validConfig c = true) : 1 ≤ c.reload.toNat := by
  rw [reload_toNat h]
  exact Nat.succ_pos _

theorem inRange_iff (c : Config) (a : Word) : inRange c a = true ↔ windowOffset c a < 4 * c.numRegs := by
  rw [inRange, decide_eq_true_eq]
  exact Iff.rfl

/-- An address selects the register at the place its window offset divided by 4 gives, and none past the last
(R76). -/
theorem regOf_eq (c : Config) (a : Word) : regOf c a = c.registers[windowOffset c a / 4]? := by
  unfold regOf
  split
  · rfl
  · next h =>
    rw [inRange_iff] at h
    exact (List.getElem?_eq_none (by rw [Config.numRegs] at h; omega)).symm

/-- An address selects no register exactly where it is outside the window. -/
theorem regOf_eq_none (c : Config) (a : Word) : regOf c a = none ↔ inRange c a = false := by
  rw [regOf_eq, List.getElem?_eq_none_iff, ← Bool.not_eq_true, inRange_iff, Config.numRegs]
  omega

/-- Where no name stands twice, an address selects `r` exactly when its window offset divided by 4 is `r`'s index
(R76). -/
theorem regOf_eq_some {c : Config} (hn : c.registers.Nodup) (a : Word) (r : RegName) :
    regOf c a = some r ↔ r ∈ c.registers ∧ windowOffset c a / 4 = c.index r := by
  rw [regOf_eq]
  constructor
  · intro h
    obtain ⟨hk, rfl⟩ := List.getElem?_eq_some_iff.1 h
    exact ⟨List.getElem_mem hk, (hn.idxOf_getElem _ hk).symm⟩
  · rintro ⟨hr, hk⟩
    rw [hk, Config.index]
    exact List.getElem?_idxOf hr

/-- In the default configuration every name has a place (R21). -/
theorem mem_default_registers (r : RegName) : r ∈ defaultConfig.registers := by
  cases r <;> decide

/-- The default configuration meets the constraints of R8. -/
theorem validConfig_default : validConfig defaultConfig = true := by decide

end Sys2Proof.Machine
end

