-- ==== Sys2Proof/Laws/State.lean ====
section
/-! SUPPORT. One lemma for each field and each update of the state, true by `rfl`, so that no later proof unfolds
a record update. -/

namespace Sys2Proof.Machine

section Updates
variable (s : State) (d : Device) (e : Event) (a : Reply) (q : Request) (rest : List Request)
variable (r : RegName) (v : Word) (c : HaltCause) (k : Variant)

@[simp] theorem State.setDevice_device : (s.setDevice d).device = some d := rfl
@[simp] theorem State.setDevice_history : (s.setDevice d).history = s.history := rfl
@[simp] theorem State.setDevice_replies : (s.setDevice d).replies = s.replies := rfl
@[simp] theorem State.setDevice_others : (s.setDevice d).others = s.others := rfl
@[simp] theorem State.setDevice_inbox : (s.setDevice d).inbox = s.inbox := rfl
@[simp] theorem State.setDevice_presenterFails : (s.setDevice d).presenterFails = s.presenterFails := rfl
@[simp] theorem State.setDevice_busOperand : (s.setDevice d).busOperand = s.busOperand := rfl

@[simp] theorem State.emit_config : (s.emit e).config = s.config := rfl
@[simp] theorem State.emit_device : (s.emit e).device = s.device := rfl
@[simp] theorem State.emit_history : (s.emit e).history = s.history ++ [e] := rfl
@[simp] theorem State.emit_replies : (s.emit e).replies = s.replies := rfl
@[simp] theorem State.emit_others : (s.emit e).others = s.others := rfl
@[simp] theorem State.emit_inbox : (s.emit e).inbox = s.inbox := rfl
@[simp] theorem State.emit_presenterFails : (s.emit e).presenterFails = s.presenterFails := rfl
@[simp] theorem State.emit_busOperand : (s.emit e).busOperand = s.busOperand := rfl

@[simp] theorem State.reply_config : (s.reply a).config = s.config := rfl
@[simp] theorem State.reply_device : (s.reply a).device = s.device := rfl
@[simp] theorem State.reply_history : (s.reply a).history = s.history := rfl
@[simp] theorem State.reply_replies : (s.reply a).replies = s.replies ++ [a] := rfl
@[simp] theorem State.reply_others : (s.reply a).others = s.others := rfl
@[simp] theorem State.reply_inbox : (s.reply a).inbox = s.inbox := rfl
@[simp] theorem State.reply_presenterFails : (s.reply a).presenterFails = s.presenterFails := rfl
@[simp] theorem State.reply_busOperand : (s.reply a).busOperand = s.busOperand := rfl

@[simp] theorem State.accept_config : (s.accept q rest).config = s.config := rfl
@[simp] theorem State.accept_device : (s.accept q rest).device = s.device := rfl
@[simp] theorem State.accept_history : (s.accept q rest).history = s.history := rfl
@[simp] theorem State.accept_replies : (s.accept q rest).replies = s.replies := rfl
@[simp] theorem State.accept_others : (s.accept q rest).others = s.others := rfl
@[simp] theorem State.accept_inbox : (s.accept q rest).inbox = rest := rfl
@[simp] theorem State.accept_presenterFails : (s.accept q rest).presenterFails = q.presenterFails := rfl
@[simp] theorem State.accept_busOperand : (s.accept q rest).busOperand = q.bus := rfl

@[simp] theorem raise_config : (raise c s d).config = s.config := rfl
@[simp] theorem raise_device : (raise c s d).device = some { d with halted := some c } := rfl
@[simp] theorem raise_history : (raise c s d).history = s.history ++ [.fatal c] := rfl
@[simp] theorem raise_replies : (raise c s d).replies = s.replies := rfl
@[simp] theorem raise_others : (raise c s d).others = s.others := rfl
@[simp] theorem raise_inbox : (raise c s d).inbox = s.inbox := rfl
@[simp] theorem raise_presenterFails : (raise c s d).presenterFails = s.presenterFails := rfl
@[simp] theorem raise_busOperand : (raise c s d).busOperand = s.busOperand := rfl

@[simp] theorem finishExpiry_config : (finishExpiry s d).config = s.config := rfl
@[simp] theorem finishExpiry_device : (finishExpiry s d).device = some { d with irq := true, cyclesRemaining := s.config.reload - 1#32 } := rfl
@[simp] theorem finishExpiry_history : (finishExpiry s d).history = s.history ++ [.raiseIrq s.config.intrLine] := rfl
@[simp] theorem finishExpiry_replies : (finishExpiry s d).replies = s.replies := rfl
@[simp] theorem finishExpiry_others : (finishExpiry s d).others = s.others := rfl
@[simp] theorem finishExpiry_inbox : (finishExpiry s d).inbox = s.inbox := rfl
@[simp] theorem finishExpiry_presenterFails : (finishExpiry s d).presenterFails = s.presenterFails := rfl
@[simp] theorem finishExpiry_busOperand : (finishExpiry s d).busOperand = s.busOperand := rfl

@[simp] theorem Device.store_regs : (d.store r v).regs = d.regs.write r v := rfl
@[simp] theorem Device.store_cyclesRemaining : (d.store r v).cyclesRemaining = d.cyclesRemaining := rfl
@[simp] theorem Device.store_ra : (d.store r v).ra = d.ra := rfl
@[simp] theorem Device.store_irq : (d.store r v).irq = d.irq := rfl
@[simp] theorem Device.store_halted : (d.store r v).halted = d.halted := rfl
@[simp] theorem Device.store_bus : (d.store r v).bus = d.bus := rfl

@[simp] theorem Device.derive_regs : (d.derive k).regs = d.regs := rfl
@[simp] theorem Device.derive_cyclesRemaining : (d.derive k).cyclesRemaining = d.cyclesRemaining := rfl
@[simp] theorem Device.derive_ra : (d.derive k).ra = d.regs.renderArea k := rfl
@[simp] theorem Device.derive_irq : (d.derive k).irq = d.irq := rfl
@[simp] theorem Device.derive_halted : (d.derive k).halted = d.halted := rfl
@[simp] theorem Device.derive_bus : (d.derive k).bus = d.bus := rfl

@[simp] theorem Device.raiseIrq_regs : d.raiseIrq.regs = d.regs := rfl
@[simp] theorem Device.raiseIrq_cyclesRemaining : d.raiseIrq.cyclesRemaining = d.cyclesRemaining := rfl
@[simp] theorem Device.raiseIrq_ra : d.raiseIrq.ra = d.ra := rfl
@[simp] theorem Device.raiseIrq_irq : d.raiseIrq.irq = true := rfl
@[simp] theorem Device.raiseIrq_halted : d.raiseIrq.halted = d.halted := rfl
@[simp] theorem Device.raiseIrq_bus : d.raiseIrq.bus = d.bus := rfl

@[simp] theorem Device.clearIrq_regs : d.clearIrq.regs = d.regs := rfl
@[simp] theorem Device.clearIrq_cyclesRemaining : d.clearIrq.cyclesRemaining = d.cyclesRemaining := rfl
@[simp] theorem Device.clearIrq_ra : d.clearIrq.ra = d.ra := rfl
@[simp] theorem Device.clearIrq_irq : d.clearIrq.irq = false := rfl
@[simp] theorem Device.clearIrq_halted : d.clearIrq.halted = d.halted := rfl
@[simp] theorem Device.clearIrq_bus : d.clearIrq.bus = d.bus := rfl

@[simp] theorem Regs.reset_read_viStatus : Regs.reset.read .viStatus = 0#32 := rfl
@[simp] theorem Regs.reset_read_viOrigin : Regs.reset.read .viOrigin = 0#32 := rfl
@[simp] theorem Regs.reset_read_viWidth : Regs.reset.read .viWidth = 0#32 := rfl
@[simp] theorem Regs.reset_read_viIntr : Regs.reset.read .viIntr = 0#32 := rfl
@[simp] theorem Regs.reset_read_viCurrent : Regs.reset.read .viCurrent = 0#32 := rfl
@[simp] theorem Regs.reset_read_viBurst : Regs.reset.read .viBurst = 0#32 := rfl
@[simp] theorem Regs.reset_read_viVSync : Regs.reset.read .viVSync = 0#32 := rfl
@[simp] theorem Regs.reset_read_viHSync : Regs.reset.read .viHSync = 0#32 := rfl
@[simp] theorem Regs.reset_read_viLeap : Regs.reset.read .viLeap = 0#32 := rfl
@[simp] theorem Regs.reset_read_viHStart : Regs.reset.read .viHStart = 0#32 := rfl
@[simp] theorem Regs.reset_read_viVStart : Regs.reset.read .viVStart = 0#32 := rfl
@[simp] theorem Regs.reset_read_viVBurst : Regs.reset.read .viVBurst = 0#32 := rfl
@[simp] theorem Regs.reset_read_viXScale : Regs.reset.read .viXScale = 0#32 := rfl
@[simp] theorem Regs.reset_read_viYScale : Regs.reset.read .viYScale = 0#32 := rfl

end Updates

/-- Two machines that agree in every field are one. -/
theorem State.eq_of_fields {s t : State} (hc : s.config = t.config) (hd : s.device = t.device) (hh : s.history = t.history)
    (hr : s.replies = t.replies) (ho : s.others = t.others) (hi : s.inbox = t.inbox)
    (hp : s.presenterFails = t.presenterFails) (hb : s.busOperand = t.busOperand) : s = t := by
  cases s; cases t; simp_all

/-- The value written is the value read back from the same slot. -/
@[simp] theorem Regs.read_write_same (x : Regs) (r : RegName) (v : Word) : (x.write r v).read r = v := by
  cases r <;> rfl

/-- A write leaves every other slot as it was. -/
theorem Regs.read_write_other (x : Regs) {r q : RegName} (v : Word) (h : q ≠ r) :
    (x.write r v).read q = x.read q := by
  cases r <;> cases q <;> first | rfl | exact absurd rfl h

end Sys2Proof.Machine
end

