-- ==== Sys2Proof/Laws/Ops.lean ====
section
/-! SUPPORT. What each shared operation and each meaning can do, said once: the lemmas later proofs cite instead
of unfolding the operation. -/

namespace Sys2Proof.Machine

/-! ### The guard every operation on a device passes (R202, R214) -/

theorem onDevice_running {s : State} {d : Device} (h : Running s d)
    (f : Device → Host.Outcome State Fault Refusal) : onDevice s f = f d := by
  simp only [onDevice, h.1, h.2]

theorem onDevice_halted {s : State} {d : Device} {c : HaltCause} (hd : s.device = some d)
    (hc : d.halted = some c) (f : Device → Host.Outcome State Fault Refusal) :
    onDevice s f = .fault (.deviceHalted c) := by
  simp only [onDevice, hd, hc]

theorem onDevice_none {s : State} (hd : s.device = none)
    (f : Device → Host.Outcome State Fault Refusal) : onDevice s f = .refused .noDevice := by
  simp only [onDevice, hd]

/-- An operation on a device that completes did so on a running device. -/
theorem onDevice_next {s t : State} {f : Device → Host.Outcome State Fault Refusal}
    (h : onDevice s f = .next t) : ∃ d, Running s d ∧ f d = .next t := by
  unfold onDevice at h
  split at h
  · cases h
  · next d hd =>
    split at h
    · cases h
    · next hn => exact ⟨d, ⟨hd, hn⟩, h⟩

/-! ### The shared operations: if one answers `next t`, then one of these cases holds -/

theorem readRegister_next {r : RegName} {s t : State} (h : readRegister r s = .next t) :
    ∃ d, Running s d ∧
      ((∃ v, readValue s.config r d = some v ∧ t = s.reply (.value v)) ∨
        (readValue s.config r d = none ∧ t = raise .scanlineDivideByZero s d)) := by
  obtain ⟨d, hd, h⟩ := onDevice_next h
  refine ⟨d, hd, ?_⟩
  split at h
  · next v hv => cases h; exact .inl ⟨v, hv, rfl⟩
  · next hv => cases h; exact .inr ⟨hv, rfl⟩

theorem writeRegister_next {r : RegName} {v : Word} {s t : State} (h : writeRegister r v s = .next t) :
    ∃ d, Running s d ∧
      ((writeEffect r = .store ∧ t = s.setDevice (d.store r v)) ∨
        (writeEffect r = .storeAndDerive ∧ t = s.setDevice ((d.store r v).derive s.config.variant)) ∨
        (writeEffect r = .acknowledge ∧ d.busBound = true ∧
          t = (s.setDevice d.clearIrq).emit (.clearIrq s.config.intrLine))) := by
  obtain ⟨d, hd, h⟩ := onDevice_next h
  refine ⟨d, hd, ?_⟩
  split at h
  · next he => cases h; exact .inl ⟨he, rfl⟩
  · next he => cases h; exact .inr (.inl ⟨he, rfl⟩)
  · next he =>
    split at h
    · next hb => cases h; exact .inr (.inr ⟨he, hb, rfl⟩)
    · cases h

/-- Only `VI_CURRENT` is acknowledged (R36). -/
theorem writeEffect_acknowledge {r : RegName} (h : writeEffect r = .acknowledge) : r = .viCurrent := by
  cases r <;> first | rfl | cases h

theorem accessOutOfRange_next {a : Word} {s t : State} (h : accessOutOfRange a s = .next t) :
    ∃ d, Running s d ∧ t = raise (.outOfRange a) s d := by
  obtain ⟨d, hd, h⟩ := onDevice_next h
  cases h
  exact ⟨d, hd, rfl⟩

/-- An expiry halts on the reserved selector, or raises the interrupt after at most one frame (R143). -/
theorem expire_cases (s : State) (d : Device) (b : BusRef) :
    (formatField d.regs.viStatus = 1#32 ∧ expire s d b = raise .reservedFormat s d) ∨
      (formatField d.regs.viStatus ≠ 1#32 ∧
        (expire s d b = finishExpiry s d ∨
          ∃ frame, decodeFrame d.ra d.regs.viOrigin d.regs.viStatus (s.config.memBase b) = .descriptor frame ∧
            expire s d b = finishExpiry (s.emit (.present frame)) d)) := by
  have hf : decodeFrame d.ra d.regs.viOrigin d.regs.viStatus (s.config.memBase b) = .reservedFormat ↔
      formatField d.regs.viStatus = 1#32 := by
    unfold decodeFrame
    constructor
    · intro h
      repeat' split at h
      all_goals first | assumption | cases h
    · intro h
      simp [h]
  unfold expire
  split
  · next h => exact .inl ⟨hf.1 h, rfl⟩
  · next h => exact .inr ⟨fun h' => absurd ((hf.2 h').symm.trans h) nofun, .inl rfl⟩
  · next f h => exact .inr ⟨fun h' => absurd ((hf.2 h').symm.trans h) nofun, .inr ⟨f, h, rfl⟩⟩

theorem tick_next {s t : State} (h : tick s = .next t) :
    ∃ d, Running s d ∧
      ((d.cyclesRemaining = 0#32 ∧ ∃ b, d.bus = some b ∧ t = expire s d b) ∨
        (d.cyclesRemaining ≠ 0#32 ∧
          t = s.setDevice { d with cyclesRemaining := d.cyclesRemaining - 1#32 })) := by
  obtain ⟨d, hd, h⟩ := onDevice_next h
  refine ⟨d, hd, ?_⟩
  split at h
  · next hz =>
    split at h
    · cases h
    · next b hb => cases h; exact .inl ⟨hz, b, hb, rfl⟩
  · next hz => cases h; exact .inr ⟨hz, rfl⟩

theorem execCreate_next {s t : State} (h : execCreate s = .next t) :
    (s.presenterFails = true ∧ t = s.reply .createFailed) ∨
      (s.presenterFails = false ∧
        t = { s with device := some (Device.reset s.config), history := [], replies := [], others := s.parkDevice }) := by
  unfold execCreate at h
  split at h
  · next hp => cases h; exact .inl ⟨hp, rfl⟩
  · next hp => cases h; exact .inr ⟨by simpa using hp, rfl⟩

theorem execConnect_next {s t : State} (h : execConnect s = .next t) :
    ∃ d, Running s d ∧ t = s.setDevice { d with bus := some s.busOperand } := by
  obtain ⟨d, hd, h⟩ := onDevice_next h
  cases h
  exact ⟨d, hd, rfl⟩

theorem execDestroy_next {s t : State} (h : execDestroy s = .next t) :
    ∃ d, s.device = some d ∧ t = { s with device := none } := by
  unfold execDestroy at h
  split at h
  · cases h
  · next d hd => cases h; exact ⟨d, hd, rfl⟩

/-! ### `exec`: every operation is one of seven -/

/-- Which shared operation an operation's meaning is, said once for all thirty-four. -/
theorem exec_cases (i : Instr) (s : State) :
    (∃ r, readReg i = some r ∧ exec i s = readRegister r s) ∨
      (∃ r v, writtenReg i = some r ∧ writtenValue i = some v ∧ exec i s = writeRegister r v s) ∨
      (∃ a, (i = .rdOutOfRange a ∨ ∃ v, i = .wrOutOfRange a v) ∧ exec i s = accessOutOfRange a s) ∨
      (i = .step ∧ exec i s = tick s) ∨
      (i = .create ∧ exec i s = execCreate s) ∨
      (i = .connect ∧ exec i s = execConnect s) ∨
      (i = .destroy ∧ exec i s = execDestroy s) := by
  cases i
  case step => exact .inr (.inr (.inr (.inl ⟨rfl, rfl⟩)))
  case create => exact .inr (.inr (.inr (.inr (.inl ⟨rfl, rfl⟩))))
  case connect => exact .inr (.inr (.inr (.inr (.inr (.inl ⟨rfl, rfl⟩)))))
  case destroy => exact .inr (.inr (.inr (.inr (.inr (.inr ⟨rfl, rfl⟩)))))
  case rdOutOfRange a => exact .inr (.inr (.inl ⟨a, .inl rfl, rfl⟩))
  case wrOutOfRange a v => exact .inr (.inr (.inl ⟨a, .inr ⟨v, rfl⟩, rfl⟩))
  all_goals first
    | exact .inl ⟨_, rfl, rfl⟩
    | exact .inr (.inl ⟨_, _, rfl, rfl, rfl⟩)

/-- Everything an operation that completes can have done, said once: `CREATE`, `DESTROY`, or one of nine effects
on a running device. -/
theorem exec_next {i : Instr} {s t : State} (h : exec i s = .next t) :
    (i = .create ∧ execCreate s = .next t) ∨
      (i = .destroy ∧ ∃ d, s.device = some d ∧ t = { s with device := none }) ∨
      ∃ d, Running s d ∧ i ≠ .create ∧ i ≠ .destroy ∧
        ((∃ r v, readReg i = some r ∧ readValue s.config r d = some v ∧ t = s.reply (.value v)) ∨
          (readReg i = some .viCurrent ∧
            scanline s.config.reload d.regs.viVSync d.cyclesRemaining = none ∧
            t = raise .scanlineDivideByZero s d) ∨
          (∃ r v, writtenReg i = some r ∧ writtenValue i = some v ∧ writeEffect r = .store ∧
            t = s.setDevice (d.store r v)) ∨
          (∃ r v, writtenReg i = some r ∧ writtenValue i = some v ∧ writeEffect r = .storeAndDerive ∧
            t = s.setDevice ((d.store r v).derive s.config.variant)) ∨
          (writtenReg i = some .viCurrent ∧ d.busBound = true ∧
            t = (s.setDevice d.clearIrq).emit (.clearIrq s.config.intrLine)) ∨
          (∃ a, (i = .rdOutOfRange a ∨ ∃ v, i = .wrOutOfRange a v) ∧ t = raise (.outOfRange a) s d) ∨
          (i = .step ∧ d.cyclesRemaining = 0#32 ∧ ∃ b, d.bus = some b ∧ t = expire s d b) ∨
          (i = .step ∧ d.cyclesRemaining ≠ 0#32 ∧
            t = s.setDevice { d with cyclesRemaining := d.cyclesRemaining - 1#32 }) ∨
          (i = .connect ∧ t = s.setDevice { d with bus := some s.busOperand })) := by
  rcases exec_cases i s with ⟨r, hr, e⟩ | ⟨r, v, hr, hv, e⟩ | ⟨a, hi, e⟩ | ⟨hi, e⟩ | ⟨hi, e⟩ | ⟨hi, e⟩ |
    ⟨hi, e⟩ <;> rw [e] at h
  case inl =>
    have hc : i ≠ .create := by rintro rfl; cases hr
    have hx : i ≠ .destroy := by rintro rfl; cases hr
    obtain ⟨d, hd, ⟨v, hv, ht⟩ | ⟨hv, ht⟩⟩ := readRegister_next h
    · exact .inr (.inr ⟨d, hd, hc, hx, .inl ⟨r, v, hr, hv, ht⟩⟩)
    · have : r = .viCurrent := by cases r <;> first | rfl | cases hv
      subst this
      exact .inr (.inr ⟨d, hd, hc, hx, .inr (.inl ⟨hr, hv, ht⟩)⟩)
  case inr.inl =>
    have hc : i ≠ .create := by rintro rfl; cases hr
    have hx : i ≠ .destroy := by rintro rfl; cases hr
    obtain ⟨d, hd, ⟨he, ht⟩ | ⟨he, ht⟩ | ⟨he, hb, ht⟩⟩ := writeRegister_next h
    · exact .inr (.inr ⟨d, hd, hc, hx, .inr (.inr (.inl ⟨r, v, hr, hv, he, ht⟩))⟩)
    · exact .inr (.inr ⟨d, hd, hc, hx, .inr (.inr (.inr (.inl ⟨r, v, hr, hv, he, ht⟩)))⟩)
    · have := writeEffect_acknowledge he
      subst this
      exact .inr (.inr ⟨d, hd, hc, hx, .inr (.inr (.inr (.inr (.inl ⟨hr, hb, ht⟩))))⟩)
  case inr.inr.inl =>
    have hc : i ≠ .create := by rcases hi with rfl | ⟨v, rfl⟩ <;> nofun
    have hx : i ≠ .destroy := by rcases hi with rfl | ⟨v, rfl⟩ <;> nofun
    obtain ⟨d, hd, ht⟩ := accessOutOfRange_next h
    exact .inr (.inr ⟨d, hd, hc, hx, .inr (.inr (.inr (.inr (.inr (.inl ⟨a, hi, ht⟩)))))⟩)
  case inr.inr.inr.inl =>
    subst hi
    obtain ⟨d, hd, ⟨hz, b, hb, ht⟩ | ⟨hz, ht⟩⟩ := tick_next h
    · exact .inr (.inr ⟨d, hd, nofun, nofun,
        .inr (.inr (.inr (.inr (.inr (.inr (.inl ⟨rfl, hz, b, hb, ht⟩))))))⟩)
    · exact .inr (.inr ⟨d, hd, nofun, nofun,
        .inr (.inr (.inr (.inr (.inr (.inr (.inr (.inl ⟨rfl, hz, ht⟩)))))))⟩)
  case inr.inr.inr.inr.inl => exact .inl ⟨hi, h⟩
  case inr.inr.inr.inr.inr.inl =>
    subst hi
    obtain ⟨d, hd, ht⟩ := execConnect_next h
    exact .inr (.inr ⟨d, hd, nofun, nofun,
      .inr (.inr (.inr (.inr (.inr (.inr (.inr (.inr ⟨rfl, ht⟩)))))))⟩)
  case inr.inr.inr.inr.inr.inr =>
    obtain ⟨d, hd, ht⟩ := execDestroy_next h
    exact .inr (.inl ⟨hi, d, hd, ht⟩)

/-! ### Runs and the history -/

@[simp] theorem irqLevel_append (h : List Event) (e : Event) :
    irqLevel (h ++ [e]) = Event.level (irqLevel h) e := by
  simp [irqLevel]

@[simp] theorem raises_append (h es : List Event) : raises (h ++ es) = raises h + raises es := by
  simp [raises]

/-- A run of one more operation. -/
theorem runOps_cons {i : Instr} {is : List Instr} {s t : State} (h : runOps (i :: is) s = .next t) :
    ∃ u, exec i s = .next u ∧ runOps is u = .next t := by
  unfold runOps at h
  split at h
  · next u hu => exact ⟨u, hu, h⟩
  · cases h
  · cases h

end Sys2Proof.Machine
end

