-- ==== Sys2Proof/Laws/PerInstr.lean ====
section
/-! SUPPORT. The per-instruction families: the encoding of every operation has the operation's own format. -/

namespace Sys2Proof.Laws

/-- The `kind` field of an operation's encoding is that of its format (R71, R79). -/
def EncodedFormat.Statement (i : Instr) : Prop := formatOf (encode i) = i.format

theorem EncodedFormat.step : EncodedFormat.Statement .step := by unfold EncodedFormat.Statement; decide
theorem EncodedFormat.rdViStatus (a : Word) : EncodedFormat.Statement (.rdViStatus a) := formatOf_packRead a
theorem EncodedFormat.rdViOrigin (a : Word) : EncodedFormat.Statement (.rdViOrigin a) := formatOf_packRead a
theorem EncodedFormat.rdViWidth (a : Word) : EncodedFormat.Statement (.rdViWidth a) := formatOf_packRead a
theorem EncodedFormat.rdViIntr (a : Word) : EncodedFormat.Statement (.rdViIntr a) := formatOf_packRead a
theorem EncodedFormat.rdViCurrent (a : Word) : EncodedFormat.Statement (.rdViCurrent a) := formatOf_packRead a
theorem EncodedFormat.rdViBurst (a : Word) : EncodedFormat.Statement (.rdViBurst a) := formatOf_packRead a
theorem EncodedFormat.rdViVSync (a : Word) : EncodedFormat.Statement (.rdViVSync a) := formatOf_packRead a
theorem EncodedFormat.rdViHSync (a : Word) : EncodedFormat.Statement (.rdViHSync a) := formatOf_packRead a
theorem EncodedFormat.rdViLeap (a : Word) : EncodedFormat.Statement (.rdViLeap a) := formatOf_packRead a
theorem EncodedFormat.rdViHStart (a : Word) : EncodedFormat.Statement (.rdViHStart a) := formatOf_packRead a
theorem EncodedFormat.rdViVStart (a : Word) : EncodedFormat.Statement (.rdViVStart a) := formatOf_packRead a
theorem EncodedFormat.rdViVBurst (a : Word) : EncodedFormat.Statement (.rdViVBurst a) := formatOf_packRead a
theorem EncodedFormat.rdViXScale (a : Word) : EncodedFormat.Statement (.rdViXScale a) := formatOf_packRead a
theorem EncodedFormat.rdViYScale (a : Word) : EncodedFormat.Statement (.rdViYScale a) := formatOf_packRead a
theorem EncodedFormat.rdOutOfRange (a : Word) : EncodedFormat.Statement (.rdOutOfRange a) := formatOf_packRead a
theorem EncodedFormat.wrViStatus (a v : Word) : EncodedFormat.Statement (.wrViStatus a v) := formatOf_packWrite a v
theorem EncodedFormat.wrViOrigin (a v : Word) : EncodedFormat.Statement (.wrViOrigin a v) := formatOf_packWrite a v
theorem EncodedFormat.wrViWidth (a v : Word) : EncodedFormat.Statement (.wrViWidth a v) := formatOf_packWrite a v
theorem EncodedFormat.wrViIntr (a v : Word) : EncodedFormat.Statement (.wrViIntr a v) := formatOf_packWrite a v
theorem EncodedFormat.wrViCurrent (a v : Word) : EncodedFormat.Statement (.wrViCurrent a v) := formatOf_packWrite a v
theorem EncodedFormat.wrViBurst (a v : Word) : EncodedFormat.Statement (.wrViBurst a v) := formatOf_packWrite a v
theorem EncodedFormat.wrViVSync (a v : Word) : EncodedFormat.Statement (.wrViVSync a v) := formatOf_packWrite a v
theorem EncodedFormat.wrViHSync (a v : Word) : EncodedFormat.Statement (.wrViHSync a v) := formatOf_packWrite a v
theorem EncodedFormat.wrViLeap (a v : Word) : EncodedFormat.Statement (.wrViLeap a v) := formatOf_packWrite a v
theorem EncodedFormat.wrViHStart (a v : Word) : EncodedFormat.Statement (.wrViHStart a v) := formatOf_packWrite a v
theorem EncodedFormat.wrViVStart (a v : Word) : EncodedFormat.Statement (.wrViVStart a v) := formatOf_packWrite a v
theorem EncodedFormat.wrViVBurst (a v : Word) : EncodedFormat.Statement (.wrViVBurst a v) := formatOf_packWrite a v
theorem EncodedFormat.wrViXScale (a v : Word) : EncodedFormat.Statement (.wrViXScale a v) := formatOf_packWrite a v
theorem EncodedFormat.wrViYScale (a v : Word) : EncodedFormat.Statement (.wrViYScale a v) := formatOf_packWrite a v
theorem EncodedFormat.wrOutOfRange (a v : Word) : EncodedFormat.Statement (.wrOutOfRange a v) := formatOf_packWrite a v
theorem EncodedFormat.create : EncodedFormat.Statement .create := by unfold EncodedFormat.Statement; decide
theorem EncodedFormat.connect : EncodedFormat.Statement .connect := by unfold EncodedFormat.Statement; decide
theorem EncodedFormat.destroy : EncodedFormat.Statement .destroy := by unfold EncodedFormat.Statement; decide

end Sys2Proof.Laws
end

