-- ==== Sys2Proof/Tests/Slice0.lean ====
section
/-! SUPPORT. Checks of the model against the spec: the words of spec/30_encoding.md written out by hand, the
vectors of spec/95_test_vectors.md, and a witness for the hypotheses of each statement. -/

namespace Sys2Proof.Tests

open Sys2Proof.Machine

/-! ### Small states and the results of one step -/

/-- A connected device with the given registers and counter, its RenderArea as R39 has it. -/
def deviceOf (x : Regs) (c : Word) : Device where
  regs := x
  cyclesRemaining := c
  ra := x.renderArea .A
  irq := false
  halted := none
  bus := some 7

/-- The device `CREATE` makes at the default parameters. -/
abbrev defaultDevice : Device := Device.reset defaultConfig

/-- The machine with that device and nothing else, at the default parameters. -/
def stateOf (d : Device) : State := { State.reset with device := some d }

/-- The state after `CREATE; CONNECT`, which the vectors start from. -/
def connected : State := stateOf (deviceOf Regs.reset defaultConfig.reload)

/-- The same state with the counter at zero, so that the next `STEP` is an expiry. -/
def expiring : State := stateOf (deviceOf Regs.reset 0#32)

/-- The registers of the address table of section 2.1: slot `i` holds `0x1000 + i`. -/
def tableRegs : Regs where
  viStatus := 0x1000#32
  viOrigin := 0x1001#32
  viWidth := 0x1002#32
  viIntr := 0x1003#32
  viCurrent := 0#32
  viBurst := 0x1005#32
  viVSync := 0x1006#32
  viHSync := 0x1007#32
  viLeap := 0x1008#32
  viHStart := 0x1009#32
  viVStart := 0x100A#32
  viVBurst := 0x100B#32
  viXScale := 0x100C#32
  viYScale := 0x100D#32

/-- Configuration G3 with the given status and origin (sections 3 and 6). -/
def typicalRegs (status origin : Word) : Regs :=
  { Regs.reset with
    viStatus := status
    viOrigin := origin
    viWidth := 0x140#32
    viHStart := 0x006C02EC#32
    viVStart := 0x002501FF#32
    viXScale := 0x200#32
    viYScale := 0x400#32 }

/-- The state after one `step` that performs the word, if there is one. -/
def after (s : State) (w : Transaction) : Option State :=
  match step { s with inbox := [⟨w, false, 7⟩] } with
  | .next t => some t
  | .fault _ => none
  | .refused _ => none

/-- The value that step returned to its caller. -/
def returned (s : State) (w : Transaction) : Option Reply := (after s w).bind fun t => t.replies.getLast?

/-- A slot after that step. -/
def slot (s : State) (w : Transaction) (r : RegName) : Option Word :=
  (after s w).bind fun t => t.device.map fun d => d.regs.read r

/-- The RenderArea after that step. -/
def area (s : State) (w : Transaction) : Option RenderArea := (after s w).bind fun t => t.device.map Device.ra

/-- The cause the device is halted with after that step. -/
def haltedWith (s : State) (w : Transaction) : Option HaltCause :=
  (after s w).bind fun t => t.device.bind Device.halted

/-! ### Decoding: one word for every constructor, written from the layout of R71 and the table of R79 -/

theorem test_decode_step : decode defaultConfig 0x00000000000000000#66 = .ok .step := by decide

theorem test_decode_step_ignores_operands : decode defaultConfig 0x0DEADBEEF12345678#66 = .ok .step := by decide

theorem test_decode_rd_status :
    decode defaultConfig 0x10440000000000000#66 = .ok (.rdViStatus 0x04400000#32) := by decide

theorem test_decode_rd_origin :
    decode defaultConfig 0x10440000400000000#66 = .ok (.rdViOrigin 0x04400004#32) := by decide

theorem test_decode_rd_width :
    decode defaultConfig 0x10440000800000000#66 = .ok (.rdViWidth 0x04400008#32) := by decide

theorem test_decode_rd_intr :
    decode defaultConfig 0x10440000C00000000#66 = .ok (.rdViIntr 0x0440000C#32) := by decide

theorem test_decode_rd_current :
    decode defaultConfig 0x10440001000000000#66 = .ok (.rdViCurrent 0x04400010#32) := by decide

theorem test_decode_rd_burst :
    decode defaultConfig 0x10440001400000000#66 = .ok (.rdViBurst 0x04400014#32) := by decide

theorem test_decode_rd_v_sync :
    decode defaultConfig 0x10440001800000000#66 = .ok (.rdViVSync 0x04400018#32) := by decide

theorem test_decode_rd_h_sync :
    decode defaultConfig 0x10440001C00000000#66 = .ok (.rdViHSync 0x0440001C#32) := by decide

theorem test_decode_rd_leap :
    decode defaultConfig 0x10440002000000000#66 = .ok (.rdViLeap 0x04400020#32) := by decide

theorem test_decode_rd_h_start :
    decode defaultConfig 0x10440002400000000#66 = .ok (.rdViHStart 0x04400024#32) := by decide

theorem test_decode_rd_v_start :
    decode defaultConfig 0x10440002800000000#66 = .ok (.rdViVStart 0x04400028#32) := by decide

theorem test_decode_rd_v_burst :
    decode defaultConfig 0x10440002C00000000#66 = .ok (.rdViVBurst 0x0440002C#32) := by decide

theorem test_decode_rd_x_scale :
    decode defaultConfig 0x10440003000000000#66 = .ok (.rdViXScale 0x04400030#32) := by decide

theorem test_decode_rd_y_scale :
    decode defaultConfig 0x10440003400000000#66 = .ok (.rdViYScale 0x04400034#32) := by decide

theorem test_decode_rd_out_of_range :
    decode defaultConfig 0x10440003800000000#66 = .ok (.rdOutOfRange 0x04400038#32) := by decide

theorem test_decode_rd_inside_the_word :
    decode defaultConfig 0x10440001300000000#66 = .ok (.rdViCurrent 0x04400013#32) := by decide

theorem test_decode_wr_status :
    decode defaultConfig 0x204400000DEADBEEF#66 = .ok (.wrViStatus 0x04400000#32 0xDEADBEEF#32) := by decide

theorem test_decode_wr_origin :
    decode defaultConfig 0x204400004DEADBEEF#66 = .ok (.wrViOrigin 0x04400004#32 0xDEADBEEF#32) := by decide

theorem test_decode_wr_width :
    decode defaultConfig 0x204400008DEADBEEF#66 = .ok (.wrViWidth 0x04400008#32 0xDEADBEEF#32) := by decide

theorem test_decode_wr_intr :
    decode defaultConfig 0x20440000CDEADBEEF#66 = .ok (.wrViIntr 0x0440000C#32 0xDEADBEEF#32) := by decide

theorem test_decode_wr_current :
    decode defaultConfig 0x204400010DEADBEEF#66 = .ok (.wrViCurrent 0x04400010#32 0xDEADBEEF#32) := by decide

theorem test_decode_wr_burst :
    decode defaultConfig 0x204400014DEADBEEF#66 = .ok (.wrViBurst 0x04400014#32 0xDEADBEEF#32) := by decide

theorem test_decode_wr_v_sync :
    decode defaultConfig 0x204400018DEADBEEF#66 = .ok (.wrViVSync 0x04400018#32 0xDEADBEEF#32) := by decide

theorem test_decode_wr_h_sync :
    decode defaultConfig 0x20440001CDEADBEEF#66 = .ok (.wrViHSync 0x0440001C#32 0xDEADBEEF#32) := by decide

theorem test_decode_wr_leap :
    decode defaultConfig 0x204400020DEADBEEF#66 = .ok (.wrViLeap 0x04400020#32 0xDEADBEEF#32) := by decide

theorem test_decode_wr_h_start :
    decode defaultConfig 0x204400024DEADBEEF#66 = .ok (.wrViHStart 0x04400024#32 0xDEADBEEF#32) := by decide

theorem test_decode_wr_v_start :
    decode defaultConfig 0x204400028DEADBEEF#66 = .ok (.wrViVStart 0x04400028#32 0xDEADBEEF#32) := by decide

theorem test_decode_wr_v_burst :
    decode defaultConfig 0x20440002CDEADBEEF#66 = .ok (.wrViVBurst 0x0440002C#32 0xDEADBEEF#32) := by decide

theorem test_decode_wr_x_scale :
    decode defaultConfig 0x204400030DEADBEEF#66 = .ok (.wrViXScale 0x04400030#32 0xDEADBEEF#32) := by decide

theorem test_decode_wr_y_scale :
    decode defaultConfig 0x204400034DEADBEEF#66 = .ok (.wrViYScale 0x04400034#32 0xDEADBEEF#32) := by decide

theorem test_decode_wr_out_of_range :
    decode defaultConfig 0x204400038DEADBEEF#66 = .ok (.wrOutOfRange 0x04400038#32 0xDEADBEEF#32) := by decide

theorem test_decode_create : decode defaultConfig 0x30000000000000000#66 = .ok .create := by decide

theorem test_decode_connect : decode defaultConfig 0x30000000100000000#66 = .ok .connect := by decide

theorem test_decode_destroy : decode defaultConfig 0x3FFFFFFFE00000000#66 = .ok .destroy := by decide

theorem test_decode_life_three : decode defaultConfig 0x30000000300000000#66 = .error .lifeSubOperationThree := by decide

/-- The window is matched on all 32 bits (rows A7 to A13 of section 2.1). -/
theorem test_window_has_no_aliases :
    [0x0440003C#32, 0x043FFFFC#32, 0x043FFFFF#32, 0x00000000#32, 0xFFFFFFFF#32, 0xA4400000#32,
      0x84400010#32].map (regOf defaultConfig) = List.replicate 7 none := by decide

/-- An encoding is the word R71 lays out. -/
theorem test_encode : encode (.wrViOrigin 0x04400006#32 0x140#32) = 0x20440000600000140#66 ∧
    encode .destroy = 0x30000000200000000#66 := by decide

/-! ### Well-formedness: an ill-formed operation for each check -/

theorem test_ill_formed_rd_status : WellFormed defaultConfig (.rdViStatus 0x04400004#32) = false := by decide

theorem test_ill_formed_rd_origin : WellFormed defaultConfig (.rdViOrigin 0x04400008#32) = false := by decide

theorem test_ill_formed_rd_width : WellFormed defaultConfig (.rdViWidth 0x0440000C#32) = false := by decide

theorem test_ill_formed_rd_intr : WellFormed defaultConfig (.rdViIntr 0x04400010#32) = false := by decide

theorem test_ill_formed_rd_current : WellFormed defaultConfig (.rdViCurrent 0x04400014#32) = false := by decide

theorem test_ill_formed_rd_burst : WellFormed defaultConfig (.rdViBurst 0x04400018#32) = false := by decide

theorem test_ill_formed_rd_v_sync : WellFormed defaultConfig (.rdViVSync 0x0440001C#32) = false := by decide

theorem test_ill_formed_rd_h_sync : WellFormed defaultConfig (.rdViHSync 0x04400020#32) = false := by decide

theorem test_ill_formed_rd_leap : WellFormed defaultConfig (.rdViLeap 0x04400024#32) = false := by decide

theorem test_ill_formed_rd_h_start : WellFormed defaultConfig (.rdViHStart 0x04400028#32) = false := by decide

theorem test_ill_formed_rd_v_start : WellFormed defaultConfig (.rdViVStart 0x0440002C#32) = false := by decide

theorem test_ill_formed_rd_v_burst : WellFormed defaultConfig (.rdViVBurst 0x04400030#32) = false := by decide

theorem test_ill_formed_rd_x_scale : WellFormed defaultConfig (.rdViXScale 0x04400034#32) = false := by decide

theorem test_ill_formed_rd_y_scale : WellFormed defaultConfig (.rdViYScale 0x04400000#32) = false := by decide

theorem test_ill_formed_rd_out_of_range : WellFormed defaultConfig (.rdOutOfRange 0x04400037#32) = false := by decide

theorem test_ill_formed_wr_status : WellFormed defaultConfig (.wrViStatus 0x04400004#32 5#32) = false := by decide

theorem test_ill_formed_wr_origin : WellFormed defaultConfig (.wrViOrigin 0x04400008#32 5#32) = false := by decide

theorem test_ill_formed_wr_width : WellFormed defaultConfig (.wrViWidth 0x0440000C#32 5#32) = false := by decide

theorem test_ill_formed_wr_intr : WellFormed defaultConfig (.wrViIntr 0x04400010#32 5#32) = false := by decide

theorem test_ill_formed_wr_current : WellFormed defaultConfig (.wrViCurrent 0x04400014#32 5#32) = false := by decide

theorem test_ill_formed_wr_burst : WellFormed defaultConfig (.wrViBurst 0x04400018#32 5#32) = false := by decide

theorem test_ill_formed_wr_v_sync : WellFormed defaultConfig (.wrViVSync 0x0440001C#32 5#32) = false := by decide

theorem test_ill_formed_wr_h_sync : WellFormed defaultConfig (.wrViHSync 0x04400020#32 5#32) = false := by decide

theorem test_ill_formed_wr_leap : WellFormed defaultConfig (.wrViLeap 0x04400024#32 5#32) = false := by decide

theorem test_ill_formed_wr_h_start : WellFormed defaultConfig (.wrViHStart 0x04400028#32 5#32) = false := by decide

theorem test_ill_formed_wr_v_start : WellFormed defaultConfig (.wrViVStart 0x0440002C#32 5#32) = false := by decide

theorem test_ill_formed_wr_v_burst : WellFormed defaultConfig (.wrViVBurst 0x04400030#32 5#32) = false := by decide

theorem test_ill_formed_wr_x_scale : WellFormed defaultConfig (.wrViXScale 0x04400034#32 5#32) = false := by decide

theorem test_ill_formed_wr_y_scale : WellFormed defaultConfig (.wrViYScale 0x04400000#32 5#32) = false := by decide

theorem test_ill_formed_wr_out_of_range : WellFormed defaultConfig (.wrOutOfRange 0x04400037#32 5#32) = false := by decide

theorem test_well_formed_at_the_edges :
    WellFormed defaultConfig (.rdViStatus 0x04400003#32) = true ∧ WellFormed defaultConfig (.wrViYScale 0x04400037#32 5#32) = true ∧
      WellFormed defaultConfig (.rdOutOfRange 0x04400038#32) = true ∧ WellFormed defaultConfig (.rdOutOfRange 0x043FFFFF#32) = true ∧
      WellFormed defaultConfig (.rdViStatus 0x04400038#32) = false := by decide

/-! ### READ (section 2.1, 2.4) -/

theorem test_rd_status : returned (stateOf (deviceOf tableRegs 5#32)) 0x10440000000000000#66 =
    some (.value 0x00001000#32) := by decide

theorem test_rd_origin : returned (stateOf (deviceOf tableRegs 5#32)) 0x10440000700000000#66 =
    some (.value 0x00001001#32) := by decide

theorem test_rd_width : returned (stateOf (deviceOf tableRegs 5#32)) 0x10440000800000000#66 =
    some (.value 0x00001002#32) := by decide

theorem test_rd_intr : returned (stateOf (deviceOf tableRegs 5#32)) 0x10440000C00000000#66 =
    some (.value 0x00001003#32) := by decide

theorem test_rd_burst : returned (stateOf (deviceOf tableRegs 5#32)) 0x10440001400000000#66 =
    some (.value 0x00001005#32) := by decide

theorem test_rd_v_sync : returned (stateOf (deviceOf tableRegs 5#32)) 0x10440001800000000#66 =
    some (.value 0x00001006#32) := by decide

theorem test_rd_h_sync : returned (stateOf (deviceOf tableRegs 5#32)) 0x10440001C00000000#66 =
    some (.value 0x00001007#32) := by decide

theorem test_rd_leap : returned (stateOf (deviceOf tableRegs 5#32)) 0x10440002000000000#66 =
    some (.value 0x00001008#32) := by decide

theorem test_rd_h_start : returned (stateOf (deviceOf tableRegs 5#32)) 0x10440002400000000#66 =
    some (.value 0x00001009#32) := by decide

theorem test_rd_v_start : returned (stateOf (deviceOf tableRegs 5#32)) 0x10440002800000000#66 =
    some (.value 0x0000100A#32) := by decide

theorem test_rd_v_burst : returned (stateOf (deviceOf tableRegs 5#32)) 0x10440002C00000000#66 =
    some (.value 0x0000100B#32) := by decide

theorem test_rd_x_scale : returned (stateOf (deviceOf tableRegs 5#32)) 0x10440003000000000#66 =
    some (.value 0x0000100C#32) := by decide

theorem test_rd_y_scale : returned (stateOf (deviceOf tableRegs 5#32)) 0x10440003700000000#66 =
    some (.value 0x0000100D#32) := by decide

/-- Row V4 at `elapsed = 520833`: scenario S3. -/
theorem test_rd_current_half_way :
    returned (stateOf (deviceOf { Regs.reset with viVSync := 262#32 } 520834#32)) 0x10440001000000000#66 =
      some (.value 130#32) := by decide

/-- Row V7 with the counter at 1. -/
theorem test_rd_current_finest :
    returned (stateOf (deviceOf { Regs.reset with viVSync := 1041667#32 } 1#32)) 0x10440001000000000#66 =
      some (.value 1041666#32) := by decide

/-- Row V8, vector X3: one line more than `RELOAD` halts the device. -/
theorem test_rd_current_halts :
    haltedWith (stateOf (deviceOf { Regs.reset with viVSync := 1041668#32 } 5#32)) 0x10440001000000000#66 =
      some .scanlineDivideByZero := by decide

/-- Row A8. -/
theorem test_rd_out_of_range :
    haltedWith connected 0x1043FFFFC00000000#66 = some (.outOfRange 0x043FFFFC#32) := by decide

/-! ### WRITE (sections 2.2, 2.3, 3) -/

theorem test_wr_status : slot connected 0x204400001DEADBEEF#66 .viStatus = some 0xDEADBEEF#32 := by decide

theorem test_wr_origin : slot connected 0x204400005DEADBEEF#66 .viOrigin = some 0xDEADBEEF#32 := by decide

theorem test_wr_width : slot connected 0x204400009DEADBEEF#66 .viWidth = some 0xDEADBEEF#32 := by decide

theorem test_wr_intr : slot connected 0x20440000DDEADBEEF#66 .viIntr = some 0xDEADBEEF#32 := by decide

theorem test_wr_burst : slot connected 0x204400015DEADBEEF#66 .viBurst = some 0xDEADBEEF#32 := by decide

theorem test_wr_v_sync : slot connected 0x204400019DEADBEEF#66 .viVSync = some 0xDEADBEEF#32 := by decide

theorem test_wr_h_sync : slot connected 0x20440001DDEADBEEF#66 .viHSync = some 0xDEADBEEF#32 := by decide

theorem test_wr_leap : slot connected 0x204400021DEADBEEF#66 .viLeap = some 0xDEADBEEF#32 := by decide

theorem test_wr_h_start : slot connected 0x204400025DEADBEEF#66 .viHStart = some 0xDEADBEEF#32 := by decide

theorem test_wr_v_start : slot connected 0x204400029DEADBEEF#66 .viVStart = some 0xDEADBEEF#32 := by decide

theorem test_wr_v_burst : slot connected 0x20440002DDEADBEEF#66 .viVBurst = some 0xDEADBEEF#32 := by decide

theorem test_wr_x_scale : slot connected 0x204400031DEADBEEF#66 .viXScale = some 0xDEADBEEF#32 := by decide

theorem test_wr_y_scale : slot connected 0x204400035DEADBEEF#66 .viYScale = some 0xDEADBEEF#32 := by decide

/-- Row G8, from configuration G3. -/
theorem test_wr_width_derives :
    area (stateOf (deviceOf (typicalRegs 2#32 0x100000#32) 5#32)) 0x20440000880000000#66 =
      some ⟨108#32, 748#32, 18#32, 255#32, 320#32, 237#32, 2147483328#32⟩ := by decide

/-- Row F17, from configuration G3. -/
theorem test_wr_h_start_derives :
    area (stateOf (deviceOf (typicalRegs 2#32 0x100000#32) 5#32)) 0x20440002402EC006C#66 =
      some ⟨748#32, 108#32, 18#32, 255#32, BitVec.ofInt 32 (-320), 237#32, 640#32⟩ := by decide

/-- Row F18, from configuration G3. -/
theorem test_wr_v_start_derives :
    area (stateOf (deviceOf (typicalRegs 2#32 0x100000#32) 5#32)) 0x20440002801FF0025#66 =
      some ⟨108#32, 748#32, 255#32, 18#32, 320#32, BitVec.ofInt 32 (-237), 0#32⟩ := by decide

/-- Row Q8, from configuration G3. -/
theorem test_wr_x_scale_derives :
    area (stateOf (deviceOf (typicalRegs 2#32 0x100000#32) 5#32)) 0x20440003000000800#66 =
      some ⟨108#32, 748#32, 18#32, 255#32, 640#32, 237#32, BitVec.ofInt 32 (-320)⟩ := by decide

/-- Row F20, from configuration G3. -/
theorem test_wr_y_scale_derives :
    area (stateOf (deviceOf (typicalRegs 2#32 0x100000#32) 5#32)) 0x20440003400000000#66 =
      some ⟨108#32, 748#32, 18#32, 255#32, 320#32, 0#32, 0#32⟩ := by decide

/-- Vectors K2 and K5: the value is ignored, the slot stays 0, the level falls and one `ClearIrq` comes out. -/
theorem test_wr_current :
    step { stateOf { deviceOf Regs.reset 9#32 with irq := true } with
        inbox := [⟨0x204400013FFFFFFFF#66, false, 0⟩] } =
      .next { stateOf (deviceOf Regs.reset 9#32) with history := [.clearIrq Config.openIntrLine] } := by rfl

/-- Vector K7. -/
theorem test_wr_current_unbound :
    exec (.wrViCurrent 0x04400010#32 0#32) State.reset = .refused .busNotConnected := by rfl

/-- Vector X2. -/
theorem test_wr_out_of_range :
    exec (.wrOutOfRange 0x04400038#32 0xDEADBEEF#32) State.reset =
      .next { State.reset with
        device := some { defaultDevice with halted := some (.outOfRange 0x04400038#32) }
        history := [.fatal (.outOfRange 0x04400038#32)] } := by rfl

/-! ### A configuration other than the default (R8; T3 of section 5) -/

/-- The nine named registers in reverse order at the top of the address space, `RELOAD = 1`, line 8, and a base
for the Bus 7. -/
def otherConfig : Config where
  viBase := 0xFFFFFFDC#32
  registers := namedRegs.reverse
  cyclesPerSecond := 0
  refreshHz := 1
  viIntrLine := some 8
  memBases := [(7, 0x1000)]
  variant := .A

theorem test_other_window :
    [0xFFFFFFDB#32, 0xFFFFFFDC#32, 0xFFFFFFFF#32, 0#32].map (regOf otherConfig) =
      [none, some .viYScale, some .viStatus, none] := by decide

theorem test_other_decode : decode otherConfig 0x2FFFFFFFD00000005#66 = .ok (.wrViStatus 0xFFFFFFFD#32 5#32) ∧
    WellFormed otherConfig (.wrViStatus 0xFFFFFFFD#32 5#32) = true ∧
    WellFormed otherConfig (.rdViStatus 0x04400000#32) = false := by decide

/-- Row 1 of T3: the first step takes the counter from 1 to 0. -/
theorem test_other_first_step : exec .step (State.resetOf otherConfig) =
    .next { State.resetOf otherConfig with
      device := some { Device.reset otherConfig with cyclesRemaining := 0#32 } } := by rfl

/-- Row 1 of T3, from then on: every step is an expiry. -/
theorem test_other_expiry :
    exec .step { stateOf (deviceOf (typicalRegs 3#32 0x100000#32) 0#32) with config := otherConfig } =
      .next { stateOf { deviceOf (typicalRegs 3#32 0x100000#32) 0#32 with irq := true } with
        config := otherConfig
        history := [.present ⟨.rgba8888, 320#32, 237#32, 4, 0x101000⟩, .raiseIrq 8] } := by rfl

/-! ### The engines (sections 3 and 6) -/

/-- Rows G12, G13 and G15. -/
theorem test_render_area :
    deriveRenderArea .A 0x03FF0000#32 0x03FF0000#32 0xFFF#32 0xFFF#32 0#32 =
        ⟨1023#32, 0#32, 511#32, 0#32, BitVec.ofInt 32 (-4091), BitVec.ofInt 32 (-2043), 4091#32⟩ ∧
      deriveRenderArea .A 0xFFFFFFFF#32 0xFFFFFFFF#32 0xFFFFFFFF#32 0xFFFFFFFF#32 0xFFFFFFFF#32 =
        ⟨1023#32, 1023#32, 511#32, 511#32, 0#32, 0#32, BitVec.ofInt 32 (-1)⟩ ∧
      deriveRenderArea .A 0x00010000#32 0x00020000#32 0x3FF#32 0x400#32 5#32 =
        ⟨1#32, 0#32, 1#32, 0#32, 0#32, BitVec.ofInt 32 (-1), 5#32⟩ := by decide

/-- Rows F3 to F6: the order of the tests. -/
theorem test_decode_frame_order :
    decodeFrame ((typicalRegs 1#32 0#32).renderArea .A) 0#32 1#32 0 = .reservedFormat ∧
      decodeFrame RenderArea.reset 0x100000#32 1#32 0 = .reservedFormat ∧
      decodeFrame ((typicalRegs 2#32 0#32).renderArea .A) 0#32 2#32 0 = .decline ∧
      decodeFrame ((typicalRegs 3#32 0#32).renderArea .A) 0x01000000#32 3#32 0 = .decline := by decide

/-- Rows F12 and F11. -/
theorem test_decode_frame_descriptor :
    decodeFrame ({ typicalRegs 2#32 0#32 with viWidth := 300#32 }.renderArea .A) 0x100000#32 2#32 0 =
        .descriptor ⟨.rgba5551, 300#32, 237#32, 2, 0x100000⟩ ∧
      decodeFrame ((typicalRegs 3#32 0#32).renderArea .A) 0xFFFFFFFF#32 3#32 5 =
        .descriptor ⟨.rgba8888, 320#32, 237#32, 4, 0x1000004⟩ := by decide

/-! ### STEP (section 5, T1 and T4; vector X5) -/

/-- Row 1 of T1, and vector X11: no Bus is needed. -/
theorem test_step_counts : exec .step State.reset =
    .next { State.reset with device := some { defaultDevice with cyclesRemaining := 1041666#32 } } := by rfl

/-- T4, the expiry of program P1: `Present`, then `RaiseIrq`, then reload and decrement. -/
theorem test_step_presents :
    exec .step (stateOf (deviceOf (typicalRegs 2#32 0x100000#32) 0#32)) =
      .next { stateOf { deviceOf (typicalRegs 2#32 0x100000#32) 1041666#32 with irq := true } with
        history :=
          [.present ⟨.rgba5551, 320#32, 237#32, 2, Config.openMemBase 7 + 0x100000⟩,
            .raiseIrq Config.openIntrLine] } := by rfl

/-! ### Lifecycle (section 7) -/

/-- `CREATE` where a halted device stands: a fresh device, the first one set aside as it was. -/
theorem test_create :
    exec .create (stateOf { defaultDevice with halted := some .reservedFormat }) =
      .next { State.reset with
        others := [⟨{ defaultDevice with halted := some .reservedFormat }, [], []⟩] } := by rfl

/-- Vector X12. -/
theorem test_create_failure :
    exec .create { State.reset with device := none, presenterFails := true } =
      .next { State.reset with device := none, presenterFails := true, replies := [.createFailed] } := by rfl

theorem test_connect :
    exec .connect { State.reset with busOperand := 3 } =
      .next { State.reset with device := some { defaultDevice with bus := some 3 }, busOperand := 3 } := by rfl

/-- Vector X8. -/
theorem test_destroy :
    exec .destroy (stateOf { defaultDevice with halted := some .reservedFormat }) =
      .next { State.reset with device := none } := by rfl

/-! ### What the host asks of the interface -/

theorem test_with_fetch_word :
    step (State.reset.withFetchWord 72 0x20440000000000002) =
      exec (.wrViStatus 0x04400000#32 2#32) State.reset := by rfl

theorem test_decode_table_word :
    decodeTableWord 72 0x10440001000000000 = some (.rdViCurrent 0x04400010#32) ∧
      decodeTableWord 72 0x30000000300000000 = none := by decide

/-! ### Witnesses: for each statement with hypotheses, a state and operands that meet all of them together -/

/-- The device after one operation. -/
def deviceAfter (i : Instr) (s : State) : Option Device :=
  match exec i s with
  | .next t => t.device
  | .fault _ => none
  | .refused _ => none

/-- Where there is a device after an operation, there is a next state that holds it. -/
theorem deviceAfter_some {i : Instr} {s : State} {d : Device} (h : deviceAfter i s = some d) :
    ∃ t, exec i s = .next t ∧ t.device = some d := by
  unfold deviceAfter at h
  split at h
  · next t ht => exact ⟨t, ht, h⟩
  · cases h
  · cases h

theorem witness_StepPerformsTheDecodedOperation :
    let r : Request := ⟨0x10440001000000000#66, true, 7⟩
    { connected with inbox := [r] }.inbox = r :: [] ∧
      decode connected.config r.word = .ok (.rdViCurrent 0x04400010#32) := by decide

theorem witness_StepWithoutAnOperation :
    connected.inbox = [] ∧
      let r : Request := ⟨0x3FFFFFFFFDEADBEEF#66, false, 7⟩
      { connected with inbox := [r] }.inbox = r :: [] ∧ r.word.extractLsb' 64 2 = 3#2 ∧
        r.word.extractLsb' 32 2 = 3#2 := by decide

theorem witness_DecodeReadsBackEveryEncoding :
    WellFormed defaultConfig (.wrViYScale 0x04400037#32 0xFFFFFFFF#32) = true ∧
      WellFormed defaultConfig (.wrOutOfRange 0x04400038#32 0xFFFFFFFF#32) = true ∧
      WellFormed defaultConfig (.rdOutOfRange 0x043FFFFF#32) = true := by decide

theorem witness_DecodedOperationsAreWellFormed :
    decode defaultConfig 0x10440003700000000#66 = .ok (.rdViYScale 0x04400037#32) ∧
      decode defaultConfig 0x30000000300000000#66 = .error .lifeSubOperationThree := by decide

/-- For `ValidConfigurationsMeetTheConstraints`, `WindowOfAnyConfiguration` and `ResetMeetsTheInvariant`: the two
configurations of these tests, and the edges of their windows. -/
theorem witness_ValidConfigurations :
    validConfig defaultConfig = true ∧ validConfig otherConfig = true ∧
      inRange otherConfig 0xFFFFFFFF#32 = true ∧ inRange otherConfig 0#32 = false ∧
      regOf defaultConfig 0x04400037#32 = some .viYScale ∧ regOf defaultConfig 0x04400038#32 = none := by decide

theorem witness_NoOperationChangesTheConfiguration :
    (∃ t, exec .create connected = .next t) ∧ ∃ t, step connected = .next t := ⟨⟨_, rfl⟩, _, rfl⟩

theorem witness_RenderAreaStaysInItsRanges :
    640 < scaledExtent (scaleField 0x400#32) 0#32 641#32 ∧
      480 < scaledExtent (scaleField 0x400#32) 0#32 481#32 ∧
      (startField 0x281#32, endField 0x281#32) = (0#32, 641#32) ∧
      (startField 0x3C2#32 >>> 1, endField 0x3C2#32 >>> 1) = (0#32, 481#32) := by decide

/-- Rows G3 and G20: different words with the same fields. -/
theorem witness_RenderAreaDependsOnItsFieldsOnly :
    (0x006C02EC#32 : Word).extractLsb' 16 10 = (0xFC6CFEEC#32 : Word).extractLsb' 16 10 ∧
      (0x006C02EC#32 : Word).extractLsb' 0 10 = (0xFC6CFEEC#32 : Word).extractLsb' 0 10 ∧
      (0x002501FF#32 : Word).extractLsb' 16 10 = (0xFC25FDFF#32 : Word).extractLsb' 16 10 ∧
      (0x002501FF#32 : Word).extractLsb' 0 10 = (0xFC25FDFF#32 : Word).extractLsb' 0 10 ∧
      (0x200#32 : Word).extractLsb' 0 12 = (0xFFFFF200#32 : Word).extractLsb' 0 12 ∧
      (0x400#32 : Word).extractLsb' 0 12 = (0xFFFFF400#32 : Word).extractLsb' 0 12 := by decide

/-- Selectors 0 to 3; each decline alone, at its boundary (rows F1, F2, F5, F6, F19, F20, F26). -/
theorem witness_DecodeFrameFollowsTheOutcomeTable :
    (0xFFFFFFFC#32 : Word).toNat % 4 = 0 ∧ (0xFFFFFFFD#32 : Word).toNat % 4 = 1 ∧
      (0xFFFFFFFE#32 : Word).toNat % 4 = 2 ∧ (0xFFFFFFFF#32 : Word).toNat % 4 = 3 ∧
      (0x01000000#32 : Word).toNat % 2 ^ 24 = 0 ∧
      ({ typicalRegs 2#32 1#32 with viXScale := 0#32 }.renderArea .A).width.toInt ≤ 0 ∧
      ({ typicalRegs 2#32 1#32 with viYScale := 0#32 }.renderArea .A).height.toInt ≤ 0 ∧
      ¬((1#32 : Word).toNat % 2 ^ 24 = 0 ∨ (RenderArea.mk 0#32 3#32 0#32 3#32 1#32 1#32 0#32).width.toInt ≤ 0 ∨
        (RenderArea.mk 0#32 3#32 0#32 3#32 1#32 1#32 0#32).height.toInt ≤ 0) := by decide

/-- Row F26, the smallest frame. -/
theorem witness_DescriptorOfARegisterArray :
    let x : Regs := { Regs.reset with
      viStatus := 2#32, viOrigin := 1#32, viHStart := 3#32, viVStart := 6#32
      viXScale := 0x156#32, viYScale := 0x156#32, viWidth := 1#32 }
    decodeFrame (x.renderArea .A) (x.read .viOrigin) (x.read .viStatus) 0 =
      .descriptor ⟨.rgba5551, 1#32, 1#32, 2, 1⟩ := by decide

/-- The two ends of the counter's nonzero values. -/
theorem witness_StepOffExpiryOnlyDecrements :
    (let d := deviceOf Regs.reset 1#32
     Running (stateOf d) d ∧ d.cyclesRemaining ≠ 0#32) ∧
    let d := deviceOf Regs.reset defaultConfig.reload
    Running (stateOf d) d ∧ d.cyclesRemaining ≠ 0#32 :=
  ⟨⟨⟨rfl, rfl⟩, by decide⟩, ⟨rfl, rfl⟩, by decide⟩

theorem witness_BlankExpiryOnlyRaisesTheInterrupt :
    let d := deviceOf (typicalRegs 0xFFFFFFFC#32 0x100000#32) 0#32
    Running (stateOf d) d ∧ d.cyclesRemaining = 0#32 ∧ d.busBound = true ∧
      (d.regs.read .viStatus).toNat % 4 = 0 ∧ State.reset.device = some defaultDevice := by decide

/-- Each of the three conditions alone (rows F6, F19, F20). -/
theorem witness_EmptyFrameExpiryOnlyRaisesTheInterrupt :
    ∀ x ∈ [typicalRegs 3#32 0x01000000#32, { typicalRegs 2#32 1#32 with viXScale := 0#32 },
        { typicalRegs 3#32 1#32 with viYScale := 0#32 }],
      let d := deviceOf x 0#32
      Running (stateOf d) d ∧ d.cyclesRemaining = 0#32 ∧ d.busBound = true ∧
        2 ≤ (d.regs.read .viStatus).toNat % 4 ∧
        ((d.regs.read .viOrigin).toNat % 2 ^ 24 = 0 ∨ d.ra.width.toInt ≤ 0 ∨ d.ra.height.toInt ≤ 0) := by
  decide

/-- Both formats (rows F10 and F11). -/
theorem witness_ExpiryPresentsThenRaises :
    ∀ x ∈ [typicalRegs 2#32 1#32, typicalRegs 3#32 0xFFFFFFFF#32],
      let d := deviceOf x 0#32
      Running (stateOf d) d ∧ d.cyclesRemaining = 0#32 ∧ d.bus = some 7 ∧
        2 ≤ (d.regs.read .viStatus).toNat % 4 ∧ (d.regs.read .viOrigin).toNat % 2 ^ 24 ≠ 0 ∧
        0 < d.ra.width.toInt ∧ 0 < d.ra.height.toInt := by decide

/-- Rows F2 and F23, and the last step before that expiry (vector X6). -/
theorem witness_ReservedFormatHaltsAtTheExpiryOnly :
    (let d := deviceOf (typicalRegs 0xFFFFFFFD#32 0x100000#32) 0#32
     Running (stateOf d) d ∧ d.cyclesRemaining = 0#32 ∧ d.busBound = true ∧
       (d.regs.read .viStatus).toNat % 4 = 1) ∧
    (let d := deviceOf (typicalRegs 1#32 0#32) 1#32
     Running (stateOf d) d ∧ d.cyclesRemaining ≠ 0#32 ∧ (d.regs.read .viStatus).toNat % 4 = 1) ∧
    let d := deviceOf Regs.reset 0#32
    Running (stateOf d) d ∧ d.cyclesRemaining = 0#32 ∧ d.busBound = true ∧ (0#32 : Word).toNat % 4 ≠ 1 ∧
      (2#32 : Word).toNat % 4 ≠ 1 := by decide

theorem witness_CounterAndInterruptsAfterSteps :
    let d := deviceOf Regs.reset defaultConfig.reload
    connected.config.reload ≠ 0#32 ∧ Running connected d ∧ d.busBound = true ∧
      d.cyclesRemaining = connected.config.reload ∧
      (d.regs.read .viStatus).toNat % 4 ≠ 1 ∧ 1 ≤ 1 := by decide

/-- A step of a connected device whose format is blank leaves such a device. -/
theorem blank_step {s : State} {d : Device} (h : Running s d) (hb : d.bus = some 7)
    (hf : d.regs.viStatus = 0#32) :
    ∃ t d', exec .step s = .next t ∧ Running t d' ∧ d'.bus = some 7 ∧ d'.regs.viStatus = 0#32 := by
  have he : exec .step s = tick s := rfl
  rw [he]
  unfold tick onDevice
  simp only [h.1, h.2]
  split
  · simp only [hb]
    refine ⟨_, { d with irq := true, cyclesRemaining := s.config.reload - 1#32 }, rfl, ?_, hb, hf⟩
    simp only [expire, hf, decodeFrame, formatField, BitVec.zero_and, if_true]
    exact ⟨rfl, h.2⟩
  · exact ⟨_, { d with cyclesRemaining := d.cyclesRemaining - 1#32, halted := none }, rfl, ⟨rfl, rfl⟩, hb, hf⟩

/-- Such a device takes any number of steps. -/
theorem blank_steps (n : Nat) : ∀ {s : State} {d : Device}, Running s d → d.bus = some 7 →
    d.regs.viStatus = 0#32 → ∃ t d', runOps (List.replicate n .step) s = .next t ∧ Running t d' := by
  induction n with
  | zero => intro s d h _ _; exact ⟨s, d, rfl, h⟩
  | succ n ih =>
    intro s d h hb hf
    obtain ⟨t, d', ht, h', hb', hf'⟩ := blank_step h hb hf
    obtain ⟨u, e, hu, he⟩ := ih h' hb' hf'
    exact ⟨u, e, by simp only [List.replicate_succ, runOps, ht, hu], he⟩

/-- A whole period from a counter in its middle, acknowledging nothing. -/
theorem witness_InterruptEveryReloadSteps :
    let ops := List.replicate defaultConfig.reload.toNat Instr.step
    let d := deviceOf Regs.reset 0#32
    ∃ t d', expiring.config.reload ≠ 0#32 ∧ (∀ o ∈ ops, o ≠ .create) ∧ runOps ops expiring = .next t ∧ Running expiring d ∧
      Running t d' ∧ d.cyclesRemaining ≤ defaultConfig.reload ∧ ops.count .step = defaultConfig.reload.toNat ∧
      d.cyclesRemaining < defaultConfig.reload := by
  obtain ⟨t, d', ht, hd⟩ := blank_steps defaultConfig.reload.toNat (s := expiring)
    (d := deviceOf Regs.reset 0#32) ⟨rfl, rfl⟩ rfl rfl
  refine ⟨t, d', by decide, ?_, ht, ⟨rfl, rfl⟩, hd, by decide, List.count_replicate_self, by decide⟩
  intro o ho
  rw [List.eq_of_mem_replicate ho]
  nofun

theorem witness_BusIsNeededForExpiryAndAcknowledge :
    let d : Device := { defaultDevice with cyclesRemaining := 0#32 }
    Running (stateOf d) d ∧ d.busBound = false ∧ d.cyclesRemaining = 0#32 := by decide

/-- A run from reset that writes elsewhere, and a write with a run after it. -/
theorem witness_LowRegisterReadsReturnTheSlot :
    (∃ s d, (∀ o ∈ [Instr.connect, .wrViOrigin 0x04400004#32 5#32, .step],
        o ≠ .create ∧ writtenReg o ≠ some .viStatus) ∧
      runOps [.connect, .wrViOrigin 0x04400004#32 5#32, .step] State.reset = .next s ∧ Running s d) ∧
    ∃ t t' d d', Running connected d ∧ exec (.wrViStatus 0x04400003#32 0xDEADBEEF#32) connected = .next t ∧
      (∀ o ∈ [Instr.step], o ≠ .create ∧ writtenReg o ≠ some .viStatus) ∧
      runOps [.step] t = .next t' ∧ Running t' d' :=
  ⟨⟨_, _, by decide, rfl, rfl, rfl⟩, _, _, _, _, ⟨rfl, rfl⟩, rfl, by decide, rfl, rfl, rfl⟩

theorem witness_HighRegisterReadsReturnTheSlot :
    (∃ s d, (∀ o ∈ [Instr.connect, .wrViOrigin 0x04400004#32 5#32, .step],
        o ≠ .create ∧ writtenReg o ≠ some .viYScale) ∧
      runOps [.connect, .wrViOrigin 0x04400004#32 5#32, .step] State.reset = .next s ∧ Running s d) ∧
    ∃ t t' d d', Running connected d ∧ exec (.wrViYScale 0x04400037#32 0xDEADBEEF#32) connected = .next t ∧
      (∀ o ∈ [Instr.step], o ≠ .create ∧ writtenReg o ≠ some .viYScale) ∧
      runOps [.step] t = .next t' ∧ Running t' d' :=
  ⟨⟨_, _, by decide, rfl, rfl, rfl⟩, _, _, _, _, ⟨rfl, rfl⟩, rfl, by decide, rfl, rfl, rfl⟩

/-- `VI_V_SYNC` at 0, 1, `RELOAD` and `RELOAD + 1`, the counter at both ends. -/
theorem witness_CurrentReadSynthesizesTheScanline :
    (∀ c, let d := deviceOf Regs.reset c
      Running (stateOf d) d ∧ d.regs.read .viVSync = 0#32) ∧
    (let d := deviceOf { Regs.reset with viVSync := 1#32 } defaultConfig.reload
     Running (stateOf d) d ∧ d.regs.read .viVSync ≠ 0#32 ∧ d.regs.read .viVSync ≤ defaultConfig.reload ∧
       d.cyclesRemaining ≤ defaultConfig.reload) ∧
    (let d := deviceOf { Regs.reset with viVSync := defaultConfig.reload } 0#32
     Running (stateOf d) d ∧ d.regs.read .viVSync ≠ 0#32 ∧ d.regs.read .viVSync ≤ defaultConfig.reload ∧
       d.cyclesRemaining ≤ defaultConfig.reload) ∧
    let d := deviceOf { Regs.reset with viVSync := defaultConfig.reload + 1#32 } 0#32
    Running (stateOf d) d ∧ defaultConfig.reload < d.regs.read .viVSync :=
  ⟨fun _ => ⟨⟨rfl, rfl⟩, rfl⟩, ⟨⟨rfl, rfl⟩, by decide, by decide, by decide⟩,
    ⟨⟨rfl, rfl⟩, by decide, by decide, by decide⟩, ⟨rfl, rfl⟩, by decide⟩

theorem witness_ReadsChangeNoDeviceState :
    ∃ t d, Running connected d ∧ (readReg (.rdViCurrent 0x04400010#32)).isSome = true ∧
      exec (.rdViCurrent 0x04400010#32) connected = .next t ∧ ¬ Failed t :=
  ⟨_, _, ⟨rfl, rfl⟩, rfl, rfl, fun ⟨_, _, hd, hc⟩ => by cases hd; cases hc⟩

/-- For the statements whose only hypothesis is that the device is running: `UsedPlainWritesStoreOnly`,
`GeometryWritesStoreAndDerive`, `OutOfRangeAccessHaltsTheDevice` and `ConnectBindsTheBus`. -/
theorem witness_Running :
    Running connected (deviceOf Regs.reset defaultConfig.reload) ∧ Running State.reset defaultDevice := by decide

theorem witness_UnusedRegistersAreStorageOnly :
    Running connected (deviceOf Regs.reset defaultConfig.reload) ∧
      Instr.step ≠ .create ∧ readReg .step ≠ some .viIntr ∧ writtenReg .step ≠ some .viIntr := by decide

/-- Vectors K1, K4 and K6. -/
theorem witness_CurrentWriteAcknowledgesTheInterrupt :
    let d : Device := { deviceOf Regs.reset 9#32 with irq := true }
    let s := stateOf d
    ∃ t, Running s d ∧ d.busBound = true ∧
      exec (.rdViCurrent 0x04400010#32) s = .next { s with replies := s.replies ++ [.value 0#32] } ∧
      exec (.wrViCurrent 0x04400013#32 0x1234#32) s = .next t ∧ t.device = some { d with irq := false } ∧
      Instr.wrViCurrent 0x04400013#32 0x1234#32 ≠ .create ∧ d.irq = true :=
  ⟨_, ⟨rfl, rfl⟩, rfl, rfl, rfl, rfl, nofun, rfl⟩

theorem witness_PlainRegistersHoldTheLastWrite :
    (∃ t t' d d', RegName.viVSync ≠ .viCurrent ∧
      writtenReg (.wrViVSync 0x04400018#32 262#32) = some .viVSync ∧
      writtenValue (.wrViVSync 0x04400018#32 262#32) = some 262#32 ∧ Running connected d ∧
      exec (.wrViVSync 0x04400018#32 262#32) connected = .next t ∧
      (∀ o ∈ [Instr.step], o ≠ .create ∧ writtenReg o ≠ some .viVSync) ∧
      runOps [.step] t = .next t' ∧ Running t' d' ∧ readReg (.rdViVSync 0x0440001B#32) = some .viVSync) ∧
    ∃ t d d', writtenReg (.wrViXScale 0x04400030#32 0x200#32) = some .viXScale ∧
      .viXScale ∈ [RegName.viWidth, .viHStart, .viVStart, .viXScale, .viYScale] ∧ Running connected d ∧
      exec (.wrViXScale 0x04400030#32 0x200#32) connected = .next t ∧ t.device = some d' :=
  ⟨⟨_, _, _, _, by decide, rfl, rfl, ⟨rfl, rfl⟩, rfl, by decide, rfl, ⟨rfl, rfl⟩, rfl⟩,
    _, _, _, rfl, by decide, ⟨rfl, rfl⟩, rfl, rfl⟩

theorem witness_SlotsChangeOnlyByTheirWrite :
    ∃ t d d', connected.device = some d ∧ exec (.wrViIntr 0x0440000C#32 2#32) connected = .next t ∧
      t.device = some d' ∧ Instr.wrViIntr 0x0440000C#32 2#32 ≠ .create ∧
      d'.regs.read .viIntr ≠ d.regs.read .viIntr :=
  ⟨_, _, _, rfl, rfl, rfl, nofun, by decide⟩

/-- One operation for each of the three causes. -/
theorem witness_FaultEntryIsPrecise :
    ∀ p ∈ [(Instr.rdOutOfRange 0x04400038#32, Regs.reset, HaltCause.outOfRange 0x04400038#32),
        (.step, typicalRegs 1#32 0#32, .reservedFormat),
        (.rdViCurrent 0x04400010#32, { Regs.reset with viVSync := 1041668#32 }, .scanlineDivideByZero)],
      let d := deviceOf p.2.1 0#32
      Running (stateOf d) d ∧ ∃ t, exec p.1 (stateOf d) = .next t ∧
        t.device = some { d with halted := some p.2.2 } := by
  have h : ∀ p ∈ [(Instr.rdOutOfRange 0x04400038#32, Regs.reset, HaltCause.outOfRange 0x04400038#32),
        (.step, typicalRegs 1#32 0#32, .reservedFormat),
        (.rdViCurrent 0x04400010#32, { Regs.reset with viVSync := 1041668#32 }, .scanlineDivideByZero)],
      deviceAfter p.1 (stateOf (deviceOf p.2.1 0#32)) =
        some { deviceOf p.2.1 0#32 with halted := some p.2.2 } := by decide
  exact fun p hp => ⟨⟨rfl, rfl⟩, deviceAfter_some (h p hp)⟩

theorem witness_HaltedDeviceTakesNoStep :
    let d : Device := { defaultDevice with halted := some (.outOfRange 0#32) }
    (stateOf d).device = some d ∧ d.halted = some (.outOfRange 0#32) ∧ Instr.connect ≠ .create ∧
      Instr.connect ≠ .destroy := by decide

theorem witness_NoDeviceNoMeaning :
    { State.reset with device := none }.device = none ∧ Instr.destroy ≠ .create := by decide

theorem witness_CreateMakesAFreshDevice :
    { connected with device := none }.presenterFails = false ∧
      { connected with device := none }.device = none ∧
      connected.presenterFails = false ∧ connected.device = some (deviceOf Regs.reset defaultConfig.reload) := by decide

theorem witness_CreateFailureMakesNoDevice :
    { State.reset with presenterFails := true }.presenterFails = true := by decide

/-- For `DestroyEndsTheDevice` and `DestroyThenCreateStartsAfresh`: a halted device. -/
theorem witness_DestroyEndsTheDevice :
    let d : Device := { defaultDevice with halted := some .reservedFormat }
    (stateOf d).device = some d ∧ (stateOf d).presenterFails = false := by decide

/-- Both cases: an operation on the device, and a second `CREATE`. -/
theorem witness_OtherDevicesAreUntouched :
    (∃ t, exec .step connected = .next t ∧ t.others = connected.others) ∧
      ∃ t, exec .create connected = .next t ∧ t.others ≠ connected.others :=
  ⟨⟨_, rfl, rfl⟩, _, rfl, nofun⟩

/-- The invariant holds of a connected device about to expire, and a `STEP` is the host's next operation. -/
theorem witness_StepKeepsTheInvariant :
    ∃ t, BlockInv { expiring with inbox := [⟨0#66, false, 7⟩] } ∧
      step { expiring with inbox := [⟨0#66, false, 7⟩] } = .next t := by
  refine ⟨_, ⟨by decide, ?_, ?_⟩, rfl⟩
  · rintro d ⟨⟩
    exact ⟨by decide, by decide, rfl, rfl⟩
  · nofun

/-- The first expiry: the level rises and one `RaiseIrq` comes out. -/
theorem witness_OnlyStepMovesTheCounter :
    ∃ t d d', expiring.device = some d ∧ exec .step expiring = .next t ∧ t.device = some d' ∧
      Instr.step ≠ .create ∧ d.irq = false ∧ d'.irq = true ∧ raises t.history ≠ raises expiring.history :=
  ⟨_, _, _, rfl, rfl, rfl, nofun, rfl, rfl, nofun⟩

theorem witness_HistoryGrowsByOneOperation :
    ∃ t, exec .step expiring = .next t ∧ Instr.step ≠ .create := ⟨_, rfl, nofun⟩

end Sys2Proof.Tests
end

section
/-! SUPPORT. How the register array changes: the slots as a memory indexed by the register name, and what an
operation that completes can do to them (R20, R26, R36). -/

namespace Sys2Proof.Machine

/-- A slot after a write to the register array (R20): the written slot holds the value, every other is as before. -/
theorem Regs.read_write (x : Regs) (r q : RegName) (v : Word) :
    (x.write r v).read q = if q = r then v else x.read q := by
  split
  · next h => rw [h, Regs.read_write_same]
  · next h => exact Regs.read_write_other x v h

/-- Every slot is zero in the reset register array (R20, R47). -/
theorem Regs.read_reset (r : RegName) : Regs.reset.read r = 0#32 := by
  cases r <;> rfl

/-- A register whose `WRITE` stores is not `VI_CURRENT` (R26, R36). -/
theorem ne_viCurrent_of_writeEffect_ne_acknowledge {r : RegName} (h : writeEffect r ≠ .acknowledge) :
    r ≠ .viCurrent := by
  rintro rfl
  exact h rfl

/-- An expiry leaves a device behind, with the registers it had: frame production reads the slots only. -/
theorem expire_device_regs (s : State) (d : Device) (b : BusRef) :
    ∃ e, (expire s d b).device = some e ∧ e.regs = d.regs := by
  obtain ⟨-, h⟩ | ⟨-, h | ⟨frame, -, h⟩⟩ := expire_cases s d b <;> rw [h]
  · exact ⟨_, raise_device s d _, rfl⟩
  · exact ⟨_, finishExpiry_device s d, rfl⟩
  · exact ⟨_, finishExpiry_device _ d, rfl⟩

/-- What an operation that completes on a device can do to the register array: nothing, or one write of its own
value to its own register, which is not `VI_CURRENT` (R20, R26). -/
theorem exec_regs {i : Instr} {s t : State} {d d' : Device} (hd : s.device = some d) (h : exec i s = .next t)
    (hd' : t.device = some d') (hi : i ≠ .create) :
    d'.regs = d.regs ∨ ∃ r v, writtenReg i = some r ∧ writtenValue i = some v ∧ r ≠ .viCurrent ∧
      d'.regs = d.regs.write r v := by
  have regs_of_device {e : Device} {x : Regs} (he : t.device = some e) (hx : e.regs = x) : d'.regs = x := by
    obtain rfl := Option.some.inj (he.symm.trans hd')
    exact hx
  obtain ⟨hc, -⟩ | ⟨-, _, -, rfl⟩ | ⟨e, ⟨he, -⟩, -, -, heffect⟩ := exec_next h
  · exact absurd hc hi
  · cases hd'
  obtain rfl : e = d := Option.some.inj (he.symm.trans hd)
  obtain ⟨_, _, -, -, rfl⟩ | ⟨-, -, rfl⟩ | ⟨r, v, hr, hv, hw, rfl⟩ | ⟨r, v, hr, hv, hw, rfl⟩ | ⟨-, -, rfl⟩ |
    ⟨_, -, rfl⟩ | ⟨-, -, b, -, rfl⟩ | ⟨-, -, rfl⟩ | ⟨-, rfl⟩ := heffect
  · exact .inl (regs_of_device he rfl) -- a read
  · exact .inl (regs_of_device rfl rfl) -- a read that faults
  · have hcur := ne_viCurrent_of_writeEffect_ne_acknowledge (r := r) (by simp [hw])
    exact .inr ⟨r, v, hr, hv, hcur, regs_of_device rfl rfl⟩ -- a plain store
  · have hcur := ne_viCurrent_of_writeEffect_ne_acknowledge (r := r) (by simp [hw])
    exact .inr ⟨r, v, hr, hv, hcur, regs_of_device rfl rfl⟩ -- a store that derives the RenderArea
  · exact .inl (regs_of_device rfl rfl) -- an acknowledge
  · exact .inl (regs_of_device rfl rfl) -- an access out of range
  · obtain ⟨_, hdev, hregs⟩ := expire_device_regs s e b
    exact .inl (regs_of_device hdev hregs) -- an expiry
  · exact .inl (regs_of_device rfl rfl) -- a `STEP` off expiry
  · exact .inl (regs_of_device rfl rfl) -- a `CONNECT`

/-- Settles O32: the slots are a memory indexed by name, and `exec_regs` says what a completed operation writes. -/
theorem slotsChangeOnlyByTheirWrite : Obligations.SlotsChangeOnlyByTheirWrite := by
  refine ⟨Regs.read_write, ?reset, ?change⟩
  case reset =>
    intro c d r hd
    cases hd
    exact Regs.read_reset r
  case change =>
    intro i s t d d' r hd h hd' hi hne
    obtain hregs | ⟨q, v, hq, -, hcur, hregs⟩ := exec_regs hd h hd' hi
    · exact absurd (by rw [hregs]) hne
    · obtain rfl : r = q := by
        by_contra hrq
        exact hne (by rw [hregs, Regs.read_write_other _ v hrq])
      exact ⟨hq, hcur⟩

end Sys2Proof.Machine
end

section
/-! SUPPORT. What an in-range `READ` and an in-range `WRITE` do on a running device, said once for every register
(R100, R101), and the acknowledge of the interrupt (R120). -/

namespace Sys2Proof.Machine

/-! ### The meaning of an operation by the register it names -/

/-- An operation that reads `r` is the shared `READ` of `r` (R100). -/
theorem exec_of_readReg {i : Instr} {r : RegName} (h : readReg i = some r) (s : State) :
    exec i s = readRegister r s := by
  cases i <;> cases h <;> rfl

/-- An operation that writes to `r` has a value operand, and is the shared `WRITE` of it to `r` (R101). -/
theorem exec_of_writtenReg {i : Instr} {r : RegName} (h : writtenReg i = some r) :
    ∃ v, writtenValue i = some v ∧ ∀ s, exec i s = writeRegister r v s := by
  cases i <;> cases h <;> exact ⟨_, rfl, fun _ => rfl⟩

/-! ### READ (R100) -/

/-- A plain read's value is the slot; only `VI_CURRENT` is synthesized (R36). -/
theorem readValue_of_ne_viCurrent {r : RegName} (hr : r ≠ .viCurrent) (c : Config) (d : Device) :
    readValue c r d = some (d.regs.read r) := by
  cases r
  case viCurrent => exact absurd rfl hr
  all_goals rfl

/-- A `READ` on a running device returns `v` and changes nothing else exactly where its value is `v`: the read
that faults puts a `Fatal` event in the history. -/
theorem readRegister_eq_reply_iff {s : State} {d : Device} (hd : Running s d) (r : RegName) (v : Word) :
    readRegister r s = .next (s.reply (.value v)) ↔ readValue s.config r d = some v := by
  rw [readRegister, onDevice_running hd]
  cases hv : readValue s.config r d with
  | some w => simp [State.reply]
  | none =>
    have hne : raise .scanlineDivideByZero s d ≠ s.reply (.value v) := by
      intro h
      have hhist : s.history ++ [.fatal .scanlineDivideByZero] = s.history := congrArg State.history h
      simp at hhist
    simpa using hne

/-- A plain `READ` on a running device returns the slot and changes nothing else (R102 to R115). -/
theorem exec_plain_read {i : Instr} {r : RegName} {s : State} {d : Device} (hr : r ≠ .viCurrent)
    (hi : readReg i = some r) (hd : Running s d) :
    exec i s = .next { s with replies := s.replies ++ [.value (d.regs.read r)] } := by
  rw [exec_of_readReg hi]
  exact (readRegister_eq_reply_iff hd r _).2 (readValue_of_ne_viCurrent hr s.config d)

/-! ### WRITE (R101) -/

/-- A `WRITE` that only stores, on a running device. -/
theorem writeRegister_of_store {r : RegName} {s : State} {d : Device} (he : writeEffect r = .store)
    (hd : Running s d) (v : Word) : writeRegister r v s = .next (s.setDevice (d.store r v)) := by
  rw [writeRegister, onDevice_running hd, he]

/-- Storing a value in a device changes the one slot and nothing else. -/
theorem storesOnly_setDevice_store (r : RegName) (v : Word) (s : State) (d : Device) :
    StoresOnly r v s (s.setDevice (d.store r v)) d :=
  ⟨d.store r v, rfl, rfl, Regs.read_write_same d.regs r v, fun _ hq => Regs.read_write_other d.regs v hq⟩

/-- The acknowledge, on a running device with a Bus (R120). -/
theorem writeRegister_viCurrent {s : State} {d : Device} (hd : Running s d) (hb : d.busBound = true) (v : Word) :
    writeRegister .viCurrent v s = .next ((s.setDevice d.clearIrq).emit (.clearIrq s.config.intrLine)) := by
  rw [writeRegister, onDevice_running hd]
  simp [writeEffect, hb]

/-- After a completed `WRITE` to a register other than `VI_CURRENT`, its slot holds the value written. -/
theorem exec_write_slot {w : Instr} {r : RegName} {v : Word} {s t : State} (hr : r ≠ .viCurrent)
    (hw : writtenReg w = some r) (hv : writtenValue w = some v) (h : exec w s = .next t) :
    ∃ e, t.device = some e ∧ e.regs.read r = v := by
  obtain ⟨v', hv', hexec⟩ := exec_of_writtenReg hw
  obtain rfl : v' = v := Option.some.inj (hv'.symm.trans hv)
  rw [hexec] at h
  obtain ⟨d, -, ⟨-, rfl⟩ | ⟨-, rfl⟩ | ⟨he, -⟩⟩ := writeRegister_next h
  · exact ⟨_, rfl, Regs.read_write_same d.regs r v'⟩
  · exact ⟨_, rfl, Regs.read_write_same d.regs r v'⟩
  · exact absurd (writeEffect_acknowledge he) hr

/-- The RenderArea of a register array, in terms of its slots (R39). -/
theorem Regs.renderArea_eq_read (x : Regs) (k : Variant) :
    x.renderArea k = deriveRenderArea k (x.read .viHStart) (x.read .viVStart) (x.read .viXScale)
      (x.read .viYScale) (x.read .viWidth) := rfl

/-- After a completed `WRITE` that derives, the RenderArea is the one of the registers as they stand (R39). -/
theorem exec_write_renderArea {w : Instr} {r : RegName} {s t : State} {d : Device} (hw : writtenReg w = some r)
    (he : writeEffect r = .storeAndDerive) (h : exec w s = .next t) (hd : t.device = some d) :
    d.ra = d.regs.renderArea s.config.variant := by
  obtain ⟨v, -, hexec⟩ := exec_of_writtenReg hw
  rw [hexec] at h
  obtain ⟨e, -, ⟨he', -⟩ | ⟨-, rfl⟩ | ⟨he', -⟩⟩ := writeRegister_next h
  · cases he.symm.trans he'
  · cases hd; rfl
  · cases he.symm.trans he'

/-- The five geometry registers are ones whose `WRITE` derives (R36). -/
theorem writeEffect_of_mem_geometry {r : RegName}
    (h : r ∈ [RegName.viWidth, .viHStart, .viVStart, .viXScale, .viYScale]) :
    writeEffect r = .storeAndDerive := by
  cases r <;> first | rfl | exact absurd h (by decide)

/-! ### The interrupt level (R40) -/

/-- An expiry leaves a device behind, and does not lower the interrupt. -/
theorem expire_device_irq (s : State) (d : Device) (b : BusRef) :
    ∃ e, (expire s d b).device = some e ∧ (d.irq = true → e.irq = true) := by
  obtain ⟨-, h⟩ | ⟨-, h | ⟨frame, -, h⟩⟩ := expire_cases s d b <;> rw [h]
  · exact ⟨_, raise_device s d _, id⟩
  · exact ⟨_, finishExpiry_device s d, fun _ => rfl⟩
  · exact ⟨_, finishExpiry_device _ d, fun _ => rfl⟩

/-- An operation that completes on a device keeps a raised interrupt raised, or is a `WRITE` to `VI_CURRENT`. -/
theorem exec_keeps_irq_or_acknowledges {i : Instr} {s t : State} {d d' : Device} (hd : s.device = some d)
    (h : exec i s = .next t) (hd' : t.device = some d') (hi : i ≠ .create) (hirq : d.irq = true) :
    d'.irq = true ∨ writtenReg i = some .viCurrent := by
  have irq_of_device {e : Device} (he : t.device = some e) (hx : e.irq = true) : d'.irq = true := by
    obtain rfl := Option.some.inj (he.symm.trans hd')
    exact hx
  obtain ⟨hc, -⟩ | ⟨-, _, -, rfl⟩ | ⟨e, ⟨he, -⟩, -, -, heffect⟩ := exec_next h
  · exact absurd hc hi
  · cases hd'
  obtain rfl : e = d := Option.some.inj (he.symm.trans hd)
  obtain ⟨_, _, -, -, rfl⟩ | ⟨-, -, rfl⟩ | ⟨_, _, -, -, -, rfl⟩ | ⟨_, _, -, -, -, rfl⟩ | ⟨hw, -⟩ |
    ⟨_, -, rfl⟩ | ⟨-, -, b, -, rfl⟩ | ⟨-, -, rfl⟩ | ⟨-, rfl⟩ := heffect
  · exact .inl (irq_of_device he hirq) -- a read
  · exact .inl (irq_of_device rfl hirq) -- a read that faults
  · exact .inl (irq_of_device rfl hirq) -- a plain store
  · exact .inl (irq_of_device rfl hirq) -- a store that derives the RenderArea
  · exact .inr hw -- an acknowledge
  · exact .inl (irq_of_device rfl hirq) -- an access out of range
  · obtain ⟨_, hdev, hkeep⟩ := expire_device_irq s e b
    exact .inl (irq_of_device hdev (hkeep hirq)) -- an expiry
  · exact .inl (irq_of_device rfl hirq) -- a `STEP` off expiry
  · exact .inl (irq_of_device rfl hirq) -- a `CONNECT`

/-- Settles O30: the acknowledge changes nothing that the synthesized value of `VI_CURRENT` depends on. -/
theorem currentWriteAcknowledgesTheInterrupt : Obligations.CurrentWriteAcknowledgesTheInterrupt := by
  refine ⟨?write, ?read, ?only⟩
  case write => exact fun s d _ v hd hb => writeRegister_viCurrent hd hb v
  case read =>
    intro s d a b v w t hd hb hread hwrite
    have hvalue : readValue s.config .viCurrent d = some w := (readRegister_eq_reply_iff hd .viCurrent w).1 hread
    cases (writeRegister_viCurrent hd hb v).symm.trans hwrite
    have hrun : Running ((s.setDevice d.clearIrq).emit (.clearIrq s.config.intrLine)) d.clearIrq := ⟨rfl, hd.2⟩
    exact (readRegister_eq_reply_iff hrun .viCurrent w).2 hvalue
  case only =>
    intro i s t d d' hd h hd' hi hirq hirq'
    exact (exec_keeps_irq_or_acknowledges hd h hd' hi hirq).resolve_left (by simp [hirq'])

end Sys2Proof.Machine
end

section
/-! SUPPORT. What a slot holds after a run of any length: the value last written, or the reset value (R132). -/

namespace Sys2Proof.Machine

/-- An operation other than `CREATE` completes only where there is a device (R202). -/
theorem exec_device_before {i : Instr} {s t : State} (h : exec i s = .next t) (hi : i ≠ .create) :
    ∃ d, s.device = some d := by
  obtain ⟨hc, -⟩ | ⟨-, d, hd, -⟩ | ⟨d, ⟨hd, -⟩, -⟩ := exec_next h
  · exact absurd hc hi
  · exact ⟨d, hd⟩
  · exact ⟨d, hd⟩

/-- An operation that is no `CREATE` and no `WRITE` to `r` leaves the slot of `r` as it was. -/
theorem exec_keeps_slot {i : Instr} {r : RegName} {s t : State} {d' : Device} (hi : i ≠ .create)
    (hr : writtenReg i ≠ some r) (h : exec i s = .next t) (hd' : t.device = some d') :
    ∃ d, s.device = some d ∧ d'.regs.read r = d.regs.read r := by
  obtain ⟨d, hd⟩ := exec_device_before h hi
  refine ⟨d, hd, ?_⟩
  obtain hregs | ⟨q, v, hq, -, -, hregs⟩ := exec_regs hd h hd' hi
  · rw [hregs]
  · rw [hregs, Regs.read_write_other]
    rintro rfl
    exact hr hq

/-- A run of such operations that leaves a device started on one, with the same value in the slot. -/
theorem runOps_keeps_slot {ops : List Instr} {r : RegName} {s t : State} {d' : Device}
    (hops : ∀ o ∈ ops, o ≠ .create ∧ writtenReg o ≠ some r) (h : runOps ops s = .next t)
    (hd' : t.device = some d') : ∃ d, s.device = some d ∧ d'.regs.read r = d.regs.read r := by
  induction ops generalizing s with
  | nil => cases h; exact ⟨d', hd', rfl⟩
  | cons o ops ih =>
    obtain ⟨⟨ho, hor⟩, hrest⟩ := List.forall_mem_cons.1 hops
    obtain ⟨u, hu, hrun⟩ := runOps_cons h
    obtain ⟨e, he, hslot⟩ := ih hrest hrun
    obtain ⟨d, hd, hslot'⟩ := exec_keeps_slot ho hor hu he
    exact ⟨d, hd, hslot.trans hslot'⟩

/-- After a run from reset without a `CREATE` or a `WRITE` to it, a slot is zero (R47). -/
theorem runOps_resetOf_slot {ops : List Instr} {r : RegName} {c : Config} {t : State} {d' : Device}
    (hops : ∀ o ∈ ops, o ≠ .create ∧ writtenReg o ≠ some r) (h : runOps ops (State.resetOf c) = .next t)
    (hd' : t.device = some d') : d'.regs.read r = 0#32 := by
  obtain ⟨d, hd, hslot⟩ := runOps_keeps_slot hops h hd'
  cases hd
  exact hslot.trans (Regs.read_reset r)

/-- After a completed `WRITE` and such a run, the slot holds the value written. -/
theorem runOps_write_slot {w : Instr} {ops : List Instr} {r : RegName} {v : Word} {s t t' : State} {d' : Device}
    (hr : r ≠ .viCurrent) (hw : writtenReg w = some r) (hv : writtenValue w = some v) (h : exec w s = .next t)
    (hops : ∀ o ∈ ops, o ≠ .create ∧ writtenReg o ≠ some r) (hrun : runOps ops t = .next t')
    (hd' : t'.device = some d') : d'.regs.read r = v := by
  obtain ⟨e, he, hslot⟩ := runOps_keeps_slot hops hrun hd'
  obtain ⟨e', he', hv'⟩ := exec_write_slot hr hw hv h
  obtain rfl : e' = e := Option.some.inj (he'.symm.trans he)
  exact hslot.trans hv'

/-- The `READ` of a register other than `VI_CURRENT` is plain, whatever its constructor. -/
theorem readsItsSlot_of_ne_viCurrent {op : Word → Instr} {wr : Word → Word → Instr} {r : RegName}
    (hr : r ≠ .viCurrent) (hop : ∀ a, readReg (op a) = some r)
    (hwr : ∀ a v, writtenReg (wr a v) = some r ∧ writtenValue (wr a v) = some v) : ReadsItsSlot op wr r := by
  refine ⟨?value, ?zero, ?last⟩
  case value => exact fun s d a hd => exec_plain_read hr (hop a) hd
  case zero =>
    intro c ops s d a hops hrun hd
    rw [exec_plain_read hr (hop a) hd, runOps_resetOf_slot hops hrun hd.1]
  case last =>
    intro ops s t t' d d' a b v _ hwrite hops hrun hd'
    obtain ⟨hreg, hval⟩ := hwr b v
    rw [exec_plain_read hr (hop a) hd', runOps_write_slot hr hreg hval hwrite hops hrun hd'.1]

/-- Settles O23: each of the six is a plain read. -/
theorem lowRegisterReadsReturnTheSlot : Obligations.LowRegisterReadsReturnTheSlot := by
  refine ⟨?status, ?origin, ?width, ?intr, ?burst, ?vSync⟩
  all_goals exact readsItsSlot_of_ne_viCurrent nofun (fun _ => rfl) fun _ _ => ⟨rfl, rfl⟩

/-- Settles O24: each of the seven is a plain read. -/
theorem highRegisterReadsReturnTheSlot : Obligations.HighRegisterReadsReturnTheSlot := by
  refine ⟨?hSync, ?leap, ?hStart, ?vStart, ?vBurst, ?xScale, ?yScale⟩
  all_goals exact readsItsSlot_of_ne_viCurrent nofun (fun _ => rfl) fun _ _ => ⟨rfl, rfl⟩

/-- Settles O31: the slot is kept along the run, and a geometry write derives from the registers it leaves. -/
theorem plainRegistersHoldTheLastWrite : Obligations.PlainRegistersHoldTheLastWrite := by
  refine ⟨?slot, ?area⟩
  case slot =>
    intro r v w ops s t t' d d' i hr hw hv _ h hops hrun hd' hi
    have hslot : d'.regs.read r = v := runOps_write_slot hr hw hv h hops hrun hd'.1
    exact ⟨hslot, by rw [exec_plain_read hr hi hd', hslot]⟩
  case area =>
    intro w r s t d d' hw hgeo _ h hd'
    rw [exec_write_renderArea hw (writeEffect_of_mem_geometry hgeo) h hd', Regs.renderArea_eq_read]

end Sys2Proof.Machine
end

section
/-! SUPPORT. Noninterference of the slots no rule reads: putting a value in such a slot commutes with every
operation but `CREATE` and the reads and writes of the register itself (R119, R121, R123, R124, R127). -/

namespace Sys2Proof.Machine

/-- The registers whose slot some rule reads besides the register's own `READ`: the FrameDecoder (R181), the
synthesized `VI_CURRENT` (R106) and the GeometryEngine (R160). -/
def regsReadByRules : List RegName :=
  [.viStatus, .viOrigin, .viVSync, .viHStart, .viVStart, .viXScale, .viYScale, .viWidth]

/-! ### What the rules read is the same after a write to another slot -/

/-- Writes to two registers commute. -/
theorem Regs.write_comm (x : Regs) {r q : RegName} (v w : Word) (h : q ≠ r) :
    (x.write r v).write q w = (x.write q w).write r v := by
  cases r <;> cases q <;> first | rfl | exact absurd rfl h

section Unused
variable {r : RegName} (hr : r ∉ regsReadByRules)
include hr

/-- A register some rule reads keeps its slot when one that no rule reads is written. -/
theorem Regs.read_write_unused (x : Regs) (v : Word) {q : RegName} (hq : q ∈ regsReadByRules) :
    (x.write r v).read q = x.read q :=
  Regs.read_write_other x v (ne_of_mem_of_not_mem hq hr)

theorem Regs.renderArea_write_unused (x : Regs) (v : Word) (k : Variant) :
    (x.write r v).renderArea k = x.renderArea k := by
  simp only [Regs.renderArea_eq_read]
  rw [Regs.read_write_unused hr x v (q := .viHStart) (by decide),
    Regs.read_write_unused hr x v (q := .viVStart) (by decide),
    Regs.read_write_unused hr x v (q := .viXScale) (by decide),
    Regs.read_write_unused hr x v (q := .viYScale) (by decide),
    Regs.read_write_unused hr x v (q := .viWidth) (by decide)]

theorem readValue_store_unused (c : Config) (d : Device) (v : Word) {q : RegName} (hq : q ≠ r) :
    readValue c q (d.store r v) = readValue c q d := by
  by_cases hcur : q = .viCurrent
  · subst hcur
    have hsync : (d.regs.write r v).viVSync = d.regs.viVSync :=
      Regs.read_write_unused hr d.regs v (q := .viVSync) (by decide)
    simp [readValue, hsync]
  · rw [readValue_of_ne_viCurrent hcur, readValue_of_ne_viCurrent hcur, Device.store_regs,
      Regs.read_write_other d.regs v hq]

end Unused

/-! ### The shared operations commute with `withSlot` -/

/-- An operation on a device commutes with `withSlot` where what it does to a running device commutes with the
store: the guards look at no slot. -/
theorem onDevice_withSlot {r : RegName} {v : Word} {s : State}
    {f g : Device → Host.Outcome State Fault Refusal}
    (h : ∀ d, Running s d → g (d.store r v) = onNext (withSlot r v) (f d)) :
    onDevice (withSlot r v s) g = onNext (withSlot r v) (onDevice s f) := by
  cases hd : s.device with
  | none =>
    rw [onDevice_none hd, onDevice_none (by simp [withSlot, hd])]
    rfl
  | some d =>
    have hd' : (withSlot r v s).device = some (d.store r v) := by simp [withSlot, hd, Device.store]
    cases hc : d.halted with
    | some c =>
      rw [onDevice_halted hd hc, onDevice_halted hd' hc]
      rfl
    | none => rw [onDevice_running ⟨hd, hc⟩, onDevice_running ⟨hd', hc⟩, h d ⟨hd, hc⟩]

theorem execConnect_withSlot (r : RegName) (v : Word) (s : State) :
    execConnect (withSlot r v s) = onNext (withSlot r v) (execConnect s) :=
  onDevice_withSlot fun _ _ => rfl

theorem accessOutOfRange_withSlot (r : RegName) (v a : Word) (s : State) :
    accessOutOfRange a (withSlot r v s) = onNext (withSlot r v) (accessOutOfRange a s) :=
  onDevice_withSlot fun _ _ => rfl

theorem execDestroy_withSlot (r : RegName) (v : Word) (s : State) :
    execDestroy (withSlot r v s) = onNext (withSlot r v) (execDestroy s) := by
  cases hd : s.device <;> simp [execDestroy, withSlot, onNext, hd]

section Unused
variable {r : RegName} (hr : r ∉ regsReadByRules)
include hr

theorem readRegister_withSlot (v : Word) (s : State) {q : RegName} (hq : q ≠ r) :
    readRegister q (withSlot r v s) = onNext (withSlot r v) (readRegister q s) := by
  refine onDevice_withSlot fun d _ => ?_
  have hvalue : readValue (withSlot r v s).config q (d.store r v) = readValue s.config q d :=
    readValue_store_unused hr s.config d v hq
  rw [hvalue]
  cases readValue s.config q d <;> rfl

theorem writeRegister_withSlot (v w : Word) (s : State) {q : RegName} (hq : q ≠ r) :
    writeRegister q w (withSlot r v s) = onNext (withSlot r v) (writeRegister q w s) := by
  refine onDevice_withSlot fun d _ => ?_
  have hstore : (d.store r v).store q w = (d.store q w).store r v := by
    simp only [Device.store, Regs.write_comm d.regs v w hq]
  cases writeEffect q with
  | store =>
    simp only [hstore]
    rfl
  | storeAndDerive =>
    have hderive (k : Variant) : ((d.store q w).store r v).derive k = ((d.store q w).derive k).store r v := by
      simp [Device.derive, Device.store, Regs.renderArea_write_unused hr]
    simp only [hstore, hderive]
    rfl
  | acknowledge =>
    have hbound : (d.store r v).busBound = d.busBound := rfl
    simp only [hbound]
    split <;> rfl

theorem expire_withSlot (v : Word) (s : State) (d : Device) (b : BusRef) :
    expire (withSlot r v s) (d.store r v) b = withSlot r v (expire s d b) := by
  have horigin : (d.regs.write r v).viOrigin = d.regs.viOrigin :=
    Regs.read_write_unused hr d.regs v (q := .viOrigin) (by decide)
  have hstatus : (d.regs.write r v).viStatus = d.regs.viStatus :=
    Regs.read_write_unused hr d.regs v (q := .viStatus) (by decide)
  have hconfig : (withSlot r v s).config = s.config := rfl
  simp only [expire, Device.store_ra, Device.store_regs, horigin, hstatus, hconfig]
  split <;> rfl

theorem tick_withSlot (v : Word) (s : State) :
    tick (withSlot r v s) = onNext (withSlot r v) (tick s) := by
  refine onDevice_withSlot fun d _ => ?_
  have hcycles : (d.store r v).cyclesRemaining = d.cyclesRemaining := rfl
  by_cases hz : d.cyclesRemaining = 0#32
  · rw [if_pos hz, if_pos (hcycles.trans hz), Device.store_bus]
    cases d.bus with
    | none => rfl
    | some b => exact congrArg Host.Outcome.next (expire_withSlot hr v s d b)
  · rw [if_neg hz, if_neg (hcycles ▸ hz)]
    rfl

/-- Every operation but `CREATE` and the reads and writes of `r` has the same outcome whatever the slot of a
register that no rule reads holds, up to that slot. -/
theorem exec_withSlot (v : Word) (s : State) {i : Instr} (hi : i ≠ .create) (hread : readReg i ≠ some r)
    (hwrite : writtenReg i ≠ some r) : exec i (withSlot r v s) = onNext (withSlot r v) (exec i s) := by
  obtain ⟨q, hq, -⟩ | ⟨q, _, hq, -⟩ | ⟨a, rfl | ⟨_, rfl⟩, -⟩ | ⟨rfl, -⟩ | ⟨hc, -⟩ | ⟨rfl, -⟩ | ⟨rfl, -⟩ :=
    exec_cases i s
  · rw [exec_of_readReg hq, exec_of_readReg hq]
    exact readRegister_withSlot hr v s (by rintro rfl; exact hread hq)
  · obtain ⟨w, -, hexec⟩ := exec_of_writtenReg hq
    rw [hexec, hexec]
    exact writeRegister_withSlot hr v w s (by rintro rfl; exact hwrite hq)
  · exact accessOutOfRange_withSlot r v a s
  · exact accessOutOfRange_withSlot r v a s
  · exact tick_withSlot hr v s
  · exact absurd hc hi
  · exact execConnect_withSlot r v s
  · exact execDestroy_withSlot r v s

end Unused

/-- A register whose `WRITE` only stores and that no rule reads is storage only. -/
theorem storageOnly_of_unused {op : Word → Word → Instr} {r : RegName} (hr : r ∉ regsReadByRules)
    (he : writeEffect r = .store) (hop : ∀ a v s, exec (op a v) s = writeRegister r v s) : StorageOnly op r := by
  refine ⟨?write, ?others⟩
  case write =>
    intro s d a v hd
    exact ⟨_, (hop a v s).trans (writeRegister_of_store he hd v), storesOnly_setDevice_store r v s d⟩
  case others => exact fun s v _ hi hread hwrite => exec_withSlot hr v s hi hread hwrite

/-- Settles O28: none of the five is among the registers that some rule reads. -/
theorem unusedRegistersAreStorageOnly : Obligations.UnusedRegistersAreStorageOnly := by
  refine ⟨?intr, ?burst, ?hSync, ?leap, ?vBurst⟩
  all_goals exact storageOnly_of_unused (by decide) rfl fun _ _ _ => rfl

end Sys2Proof.Machine
end

section
/-! SUPPORT. The expiry of a connected device, by the outcome of its FrameDecoder (R142, R143, R182). -/

namespace Sys2Proof.Machine

/-- The format selector as a number: the two low bits of `VI_STATUS` (R181). -/
@[simp] theorem formatField_toNat (statusReg : Word) : (formatField statusReg).toNat = statusReg.toNat % 4 :=
  (BitVec.toNat_and statusReg 0x3#32).trans (Nat.and_two_pow_sub_one_eq_mod statusReg.toNat 2)

/-- The blank selector declines whatever the geometry and the origin: it is the first test of R192. -/
theorem decodeFrame_of_blank {statusReg : Word} (h : statusReg.toNat % 4 = 0) (ra : RenderArea) (originReg : Word)
    (memBase : Nat) : decodeFrame ra originReg statusReg memBase = .decline := by
  have hblank : formatField statusReg = 0#32 := BitVec.eq_of_toNat_eq (by simp [h])
  rw [decodeFrame, if_pos hblank]

/-- A `STEP` that begins with the counter at zero is the expiry, on the Bus that `CONNECT` bound (R142). -/
theorem exec_step_expiry {s : State} {d : Device} {b : BusRef} (hd : Running s d) (hz : d.cyclesRemaining = 0#32)
    (hb : d.bus = some b) : exec .step s = .next (expire s d b) := by
  change tick s = _
  rw [tick, onDevice_running hd, if_pos hz, hb]

/-- An expiry whose FrameDecoder declines is the common end of every expiry and no more (R143, R144). -/
theorem expire_of_decline {s : State} {d : Device} {b : BusRef}
    (h : decodeFrame d.ra d.regs.viOrigin d.regs.viStatus (s.config.memBase b) = .decline) :
    expire s d b = finishExpiry s d := by
  rw [expire, h]

/-- Settles O16: the blank selector declines, so the expiry only raises the interrupt and reloads the counter. -/
theorem blankExpiryOnlyRaisesTheInterrupt : Obligations.BlankExpiryOnlyRaisesTheInterrupt := by
  refine ⟨?expiry, ?reset⟩
  case expiry =>
    intro s d hd hz hbound hblank
    obtain ⟨b, hb⟩ : ∃ b, d.bus = some b := Option.isSome_iff_exists.1 hbound
    rw [exec_step_expiry hd hz hb, expire_of_decline (decodeFrame_of_blank hblank ..)]
    rfl
  case reset =>
    intro c d hd
    cases hd
    change (Regs.reset.read .viStatus).toNat % 4 = 0
    rw [Regs.read_reset, BitVec.toNat_zero]

end Sys2Proof.Machine
end

section
/-! SUPPORT. The counter as a clock that only `STEP` moves (R37, R145, R146), and the rate of interrupts this gives
for every interleaving of operations (R229). -/

namespace Sys2Proof.Machine

/-! ### An operation that leaves a running device -/

/-- An operation other than `CREATE` that leaves a device running began on a running device (R202, R214). -/
theorem exec_running_before {i : Instr} {s t : State} {d' : Device} (h : exec i s = .next t) (hi : i ≠ .create)
    (hd' : Running t d') : ∃ d, Running s d := by
  obtain ⟨hc, -⟩ | ⟨-, _, -, rfl⟩ | ⟨d, hd, -⟩ := exec_next h
  · exact absurd hc hi
  · cases hd'.1
  · exact ⟨d, hd⟩

/-- So did a run of such operations: no `DESTROY` and no fault stood in it. -/
theorem runOps_running_before {ops : List Instr} {s t : State} {d' : Device} (hops : ∀ o ∈ ops, o ≠ .create)
    (h : runOps ops s = .next t) (hd' : Running t d') : ∃ d, Running s d := by
  induction ops generalizing s with
  | nil => cases h; exact ⟨d', hd'⟩
  | cons o ops ih =>
    obtain ⟨ho, hrest⟩ := List.forall_mem_cons.1 hops
    obtain ⟨u, hu, hrun⟩ := runOps_cons h
    obtain ⟨e, he⟩ := ih hrest hrun
    exact exec_running_before hu ho he

/-- A fault leaves no running device (R214). -/
theorem not_running_raise {c : HaltCause} {s : State} {d d' : Device} : ¬ Running (raise c s d) d' := by
  rintro ⟨hdev, hrun⟩
  cases hdev
  cases hrun

/-! ### The clock -/

/-- `n` `STEP`s lie between the device `d` of `s` and the device `d'` of `t`. An interrupt is worth `RELOAD` counts of
the clock: each expiry gives back what the decrements since the last one took, so the account balances. -/
structure ClockAdvances (n : Nat) (s : State) (d : Device) (t : State) (d' : Device) : Prop where
  config : t.config = s.config
  balance : s.config.reload.toNat * raises t.history + d.cyclesRemaining.toNat =
    s.config.reload.toNat * raises s.history + d'.cyclesRemaining.toNat + n
  counter : n = 0 ∧ d'.cyclesRemaining = d.cyclesRemaining ∨
    0 < n ∧ d'.cyclesRemaining.toNat < s.config.reload.toNat

namespace ClockAdvances
variable {m n : Nat} {s t u : State} {d d' e : Device}

/-- The clock stands still where the configuration, the counter and the number of interrupts do. -/
theorem of_unchanged (hc : t.config = s.config) (hr : raises t.history = raises s.history)
    (hd : d'.cyclesRemaining = d.cyclesRemaining) : ClockAdvances 0 s d t d' where
  config := hc
  balance := by rw [hr, hd, Nat.add_zero]
  counter := .inl ⟨rfl, hd⟩

/-- A `STEP` off expiry takes one count off the clock (R146). -/
theorem of_decrement (hz : d.cyclesRemaining ≠ 0#32) (hle : d.cyclesRemaining ≤ s.config.reload) :
    ClockAdvances 1 s d (s.setDevice { d with cyclesRemaining := d.cyclesRemaining - 1#32 })
      { d with cyclesRemaining := d.cyclesRemaining - 1#32 } := by
  have hdec : (d.cyclesRemaining - 1#32).toNat + 1 = d.cyclesRemaining.toNat := by bv_omega
  have hle' : d.cyclesRemaining.toNat ≤ s.config.reload.toNat := hle
  exact ⟨rfl, by simp only [State.setDevice_history]; omega, .inr ⟨one_pos, by simp only; omega⟩⟩

/-- An expiry that ends with the reload gives one interrupt for `RELOAD` counts, one of which it takes itself
(R144 to R146). The history it starts from may hold the frame already. -/
theorem of_finishExpiry (hR : s.config.reload ≠ 0#32) (hz : d.cyclesRemaining = 0#32) (hc : u.config = s.config)
    (hr : raises u.history = raises s.history) (hd' : (finishExpiry u d).device = some d') :
    ClockAdvances 1 s d (finishExpiry u d) d' := by
  cases hd'
  have hdec : (s.config.reload - 1#32).toNat + 1 = s.config.reload.toNat := by bv_omega
  have hraise : raises (finishExpiry u d).history = raises s.history + 1 := by
    rw [finishExpiry_history, raises_append, hr]
    rfl
  refine ⟨hc, ?_, .inr ⟨one_pos, ?_⟩⟩
  · rw [hraise, Nat.mul_succ, hz, hc, BitVec.toNat_zero]
    simp only
    omega
  · simp only [hc]
    omega

theorem trans (h : ClockAdvances m s d u e) (h' : ClockAdvances n u e t d') : ClockAdvances (m + n) s d t d' := by
  obtain ⟨hc, hbal, hcount⟩ := h
  obtain ⟨hc', hbal', hcount'⟩ := h'
  rw [hc] at hbal' hcount'
  refine ⟨hc'.trans hc, by omega, ?_⟩
  obtain ⟨rfl, he⟩ | ⟨hm, he⟩ := hcount
  · rw [Nat.zero_add, ← he]
    exact hcount'
  · refine .inr ⟨Nat.add_pos_left hm n, ?_⟩
    obtain ⟨-, hd'⟩ | ⟨-, hd'⟩ := hcount'
    · rwa [hd']
    · exact hd'

/-- The counter stays within `RELOAD` (R241). -/
theorem counter_le (h : ClockAdvances n s d t d') (hle : d.cyclesRemaining ≤ s.config.reload) :
    d'.cyclesRemaining ≤ t.config.reload := by
  rw [h.config]
  obtain ⟨-, hd'⟩ | ⟨-, hd'⟩ := h.counter
  · rwa [hd']
  · exact hd'.le

/-- The account solved for the number of interrupts: what is left of the last period is less than `RELOAD`. -/
theorem raises_eq (h : ClockAdvances n s d t d') (hR : s.config.reload ≠ 0#32)
    (hle : d.cyclesRemaining ≤ s.config.reload) :
    raises t.history = raises s.history +
      (n + s.config.reload.toNat - 1 - d.cyclesRemaining.toNat) / s.config.reload.toNat := by
  have hpos : 0 < s.config.reload.toNat := by bv_omega
  have hle' : d.cyclesRemaining.toNat ≤ s.config.reload.toNat := hle
  have hbal := h.balance
  obtain ⟨rfl, hd'⟩ | ⟨hn, hd'⟩ := h.counter
  · rw [hd'] at hbal
    have hsame : raises t.history = raises s.history := Nat.eq_of_mul_eq_mul_left hpos (by omega)
    rw [hsame, Nat.div_eq_of_lt (by omega), Nat.add_zero]
  · have hmono : raises s.history ≤ raises t.history := by
      by_contra hlt
      have hperiod := Nat.mul_le_mul_left s.config.reload.toNat (Nat.succ_le_of_lt (not_le.1 hlt))
      rw [Nat.mul_succ] at hperiod
      omega
    obtain ⟨k, hk⟩ := Nat.exists_eq_add_of_le hmono
    rw [hk, Nat.mul_add] at hbal
    have hsteps : n + s.config.reload.toNat - 1 - d.cyclesRemaining.toNat =
        s.config.reload.toNat * k + (s.config.reload.toNat - 1 - d'.cyclesRemaining.toNat) := by omega
    rw [hk, hsteps, Nat.mul_add_div hpos, Nat.div_eq_of_lt (by omega), Nat.add_zero]

end ClockAdvances

/-! ### What moves the clock -/

/-- An expiry that leaves the device running is one count of the clock, with or without a frame (R143). -/
theorem expire_clockAdvances {s : State} {d d' : Device} {b : BusRef} (hR : s.config.reload ≠ 0#32)
    (hz : d.cyclesRemaining = 0#32) (hd' : Running (expire s d b) d') :
    ClockAdvances 1 s d (expire s d b) d' := by
  obtain ⟨-, h⟩ | ⟨-, h | ⟨frame, -, h⟩⟩ := expire_cases s d b <;> rw [h] at hd' ⊢
  · exact absurd hd' not_running_raise
  · exact .of_finishExpiry hR hz rfl rfl hd'.1
  · exact .of_finishExpiry hR hz rfl (by simp [raises, Event.isRaise]) hd'.1

/-- A `STEP` is one count of the clock, and no other operation moves it: no register, frame or acknowledge takes part
(R229). -/
theorem exec_clockAdvances {i : Instr} {s t : State} {d d' : Device} (hR : s.config.reload ≠ 0#32)
    (hd : Running s d) (h : exec i s = .next t) (hd' : Running t d') (hi : i ≠ .create)
    (hle : d.cyclesRemaining ≤ s.config.reload) : ClockAdvances ([i].count .step) s d t d' := by
  have still (hns : i ≠ .step) (hc : t.config = s.config) (hr : raises t.history = raises s.history)
      {e : Device} (he : t.device = some e) (hcount : e.cyclesRemaining = d.cyclesRemaining) :
      ClockAdvances ([i].count .step) s d t d' := by
    obtain rfl : e = d' := Option.some.inj (he.symm.trans hd'.1)
    rw [List.count_singleton, if_neg (by simpa using hns)]
    exact .of_unchanged hc hr hcount
  have ne_step_of_readReg {r : RegName} (hr : readReg i = some r) : i ≠ .step := by rintro rfl; cases hr
  have ne_step_of_writtenReg {r : RegName} (hr : writtenReg i = some r) : i ≠ .step := by rintro rfl; cases hr
  obtain ⟨hc, -⟩ | ⟨-, _, -, rfl⟩ | ⟨e, ⟨he, -⟩, -, -, heffect⟩ := exec_next h
  · exact absurd hc hi
  · cases hd'.1
  obtain rfl : e = d := Option.some.inj (he.symm.trans hd.1)
  obtain ⟨_, _, hr, -, rfl⟩ | ⟨-, -, rfl⟩ | ⟨r, v, hr, -, -, rfl⟩ | ⟨r, v, hr, -, -, rfl⟩ | ⟨hr, -, rfl⟩ |
    ⟨_, -, rfl⟩ | ⟨rfl, hz, b, -, rfl⟩ | ⟨rfl, hz, rfl⟩ | ⟨rfl, rfl⟩ := heffect
  · exact still (ne_step_of_readReg hr) rfl rfl he rfl -- a read
  · exact absurd hd' not_running_raise -- a read that faults
  · exact still (ne_step_of_writtenReg hr) rfl rfl rfl rfl -- a plain store
  · exact still (ne_step_of_writtenReg hr) rfl rfl rfl rfl -- a store that derives the RenderArea
  · exact still (ne_step_of_writtenReg hr) rfl (by simp [raises, Event.isRaise]) rfl rfl -- an acknowledge
  · exact absurd hd' not_running_raise -- an access out of range
  · exact expire_clockAdvances hR hz hd' -- an expiry
  · cases hd'.1
    exact .of_decrement hz hle -- a `STEP` off expiry
  · exact still nofun rfl rfl rfl rfl -- a `CONNECT`

/-- A run is as many counts of the clock as it holds `STEP`s. -/
theorem runOps_clockAdvances {ops : List Instr} {s t : State} {d d' : Device} (hR : s.config.reload ≠ 0#32)
    (hops : ∀ o ∈ ops, o ≠ .create) (h : runOps ops s = .next t) (hd : Running s d) (hd' : Running t d')
    (hle : d.cyclesRemaining ≤ s.config.reload) : ClockAdvances (ops.count .step) s d t d' := by
  induction ops generalizing s d with
  | nil =>
    cases h
    exact .of_unchanged rfl rfl (congrArg Device.cyclesRemaining (Option.some.inj (hd'.1.symm.trans hd.1)))
  | cons o ops ih =>
    obtain ⟨ho, hrest⟩ := List.forall_mem_cons.1 hops
    obtain ⟨u, hu, hrun⟩ := runOps_cons h
    obtain ⟨e, he⟩ := runOps_running_before hrest hrun hd'
    have hfirst := exec_clockAdvances hR hd hu he ho hle
    have hthen := ih (hfirst.config.symm ▸ hR) hrest hrun he (hfirst.counter_le hle)
    rw [← List.singleton_append, List.count_append]
    exact hfirst.trans hthen

/-- Settles O21: the run keeps the clock's account, which determines the number of interrupts. -/
theorem interruptEveryReloadSteps : Obligations.InterruptEveryReloadSteps := by
  intro ops s t d d' hR hops h hd hd' hle
  have hcount := (runOps_clockAdvances hR hops h hd hd' hle).raises_eq hR hle
  refine ⟨hcount, fun hn hlt => ?_⟩
  have hlt' : d.cyclesRemaining.toNat < s.config.reload.toNat := hlt
  rw [hcount, hn, Nat.div_eq_of_lt_le (k := 1) (by omega) (by omega)]

end Sys2Proof.Machine
end

section
/-! SUPPORT. Decode and encode as inverses (R71 to R76): the operands of a bus operation stand in its encoding, and
its address is all the decoder looks at to name it. -/

namespace Sys2Proof

open Machine (RegName regOf inRange readReg writtenReg regOf_eq_none)

/-! ### From an operation to its word and back -/

/-- An in-range `READ` of `r` is packed from its address alone, its row admits the addresses that select `r`, and the
decoder names it by that (R72, R100). -/
theorem encode_of_readReg {i : Instr} {r : RegName} (h : readReg i = some r) :
    ∃ a, encode i = packRead a ∧
      ∀ c, WellFormed c i = selects c a r ∧ (regOf c a = some r → decodeRead c a = i) := by
  cases i <;> cases h
  all_goals exact ⟨_, rfl, fun c => ⟨rfl, fun ha => by simp only [decodeRead, ha]⟩⟩

/-- The same of an in-range `WRITE` and its two operands (R73, R101). -/
theorem encode_of_writtenReg {i : Instr} {r : RegName} (h : writtenReg i = some r) :
    ∃ a v, encode i = packWrite a v ∧
      ∀ c, WellFormed c i = selects c a r ∧ (regOf c a = some r → decodeWrite c a v = i) := by
  cases i <;> cases h
  all_goals exact ⟨_, _, rfl, fun c => ⟨rfl, fun ha => by simp only [decodeWrite, ha]⟩⟩

theorem decode_encode_of_readReg {c : Config} {i : Instr} {r : RegName} (hr : readReg i = some r)
    (h : WellFormed c i = true) : decode c (encode i) = .ok i := by
  obtain ⟨a, hword, hrow⟩ := encode_of_readReg hr
  obtain ⟨hwf, hname⟩ := hrow c
  have ha : regOf c a = some r := (selects_iff c a r).1 (hwf ▸ h)
  rw [hword, decode_packRead, hname ha]

theorem decode_encode_of_writtenReg {c : Config} {i : Instr} {r : RegName} (hr : writtenReg i = some r)
    (h : WellFormed c i = true) : decode c (encode i) = .ok i := by
  obtain ⟨a, v, hword, hrow⟩ := encode_of_writtenReg hr
  obtain ⟨hwf, hname⟩ := hrow c
  have ha : regOf c a = some r := (selects_iff c a r).1 (hwf ▸ h)
  rw [hword, decode_packWrite, hname ha]

/-- An out-of-range operation's address selects no register (R130, R131). -/
theorem regOf_of_not_inRange {c : Config} {a : Word} (h : (!inRange c a) = true) : regOf c a = none :=
  (regOf_eq_none c a).2 (by simpa using h)

/-- The four operations without an address: the format, and for `LIFE` the sub-operation, is all of the word (R71,
R75). -/
theorem decode_encode_of_no_address (c : Config) :
    ∀ i ∈ [Instr.step, .create, .connect, .destroy], decode c (encode i) = .ok i := by
  simp [encode, decode, formatOf, decodeLife, subOperation_pack]

/-- Settles O5: the decoder reads the operands back, and a well-formed operation is the one its address names. -/
theorem decodeReadsBackEveryEncoding : Obligations.DecodeReadsBackEveryEncoding := by
  intro c i h
  cases i
  case step | create | connect | destroy => exact decode_encode_of_no_address c _ (by simp)
  case rdOutOfRange a =>
    change decode c (packRead a) = _
    rw [decode_packRead, decodeRead, regOf_of_not_inRange h]
  case wrOutOfRange a v =>
    change decode c (packWrite a v) = _
    rw [decode_packWrite, decodeWrite, regOf_of_not_inRange h]
  case rdViStatus | rdViOrigin | rdViWidth | rdViIntr | rdViCurrent | rdViBurst | rdViVSync | rdViHSync |
    rdViLeap | rdViHStart | rdViVStart | rdViVBurst | rdViXScale | rdViYScale =>
    exact decode_encode_of_readReg rfl h
  all_goals exact decode_encode_of_writtenReg rfl h

/-! ### From a word to its operation -/

theorem wellFormed_decodeRead (c : Config) (a : Word) : WellFormed c (decodeRead c a) = true := by
  cases h : regOf c a with
  | none => simp [decodeRead, h, WellFormed, (regOf_eq_none c a).1 h]
  | some r => cases r <;> simp [decodeRead, h, WellFormed, selects]

theorem wellFormed_decodeWrite (c : Config) (a v : Word) : WellFormed c (decodeWrite c a v) = true := by
  cases h : regOf c a with
  | none => simp [decodeWrite, h, WellFormed, (regOf_eq_none c a).1 h]
  | some r => cases r <;> simp [decodeWrite, h, WellFormed, selects]

/-- A two-bit field that holds none of 0, 1 and 2 holds 3. -/
theorem eq_three_of_two_bits {x : BitVec 2} (h0 : x ≠ 0#2) (h1 : x ≠ 1#2) (h2 : x ≠ 2#2) : x = 3#2 := by
  revert x
  decide

/-- What the `LIFE` format decodes to: its three operations by the sub-operation, none for 3 (R75). -/
theorem decodeLife_cases (t : Transaction) :
    (subOperation t = 0#2 ∧ decodeLife t = .ok .create) ∨ (subOperation t = 1#2 ∧ decodeLife t = .ok .connect) ∨
      (subOperation t = 2#2 ∧ decodeLife t = .ok .destroy) ∨
      (subOperation t = 3#2 ∧ decodeLife t = .error .lifeSubOperationThree) := by
  unfold decodeLife
  split
  · next h => exact .inl ⟨h, rfl⟩
  split
  · next h => exact .inr (.inl ⟨h, rfl⟩)
  split
  · next h => exact .inr (.inr (.inl ⟨h, rfl⟩))
  · next h0 h1 h2 => exact .inr (.inr (.inr ⟨eq_three_of_two_bits h0 h1 h2, rfl⟩))

/-- What the decoder does with a word, by its kind (R71). -/
theorem decode_cases (c : Config) (t : Transaction) :
    (kindField t = 0#2 ∧ decode c t = .ok .step) ∨
      (kindField t = 1#2 ∧ decode c t = .ok (decodeRead c (addrField t))) ∨
      (kindField t = 2#2 ∧ decode c t = .ok (decodeWrite c (addrField t) (dataField t))) ∨
      (kindField t = 3#2 ∧ decode c t = decodeLife t) := by
  by_cases h0 : kindField t = 0#2
  · exact .inl ⟨h0, by simp [decode, formatOf, h0]⟩
  by_cases h1 : kindField t = 1#2
  · exact .inr (.inl ⟨h1, by simp [decode, formatOf, h1]⟩)
  by_cases h2 : kindField t = 2#2
  · exact .inr (.inr (.inl ⟨h2, by simp [decode, formatOf, h2]⟩))
  · exact .inr (.inr (.inr ⟨eq_three_of_two_bits h0 h1 h2, by simp [decode, formatOf, h0, h1, h2]⟩))

theorem wellFormed_of_decodeLife {c : Config} {t : Transaction} {i : Instr} (h : decodeLife t = .ok i) :
    WellFormed c i = true := by
  obtain ⟨-, ht⟩ | ⟨-, ht⟩ | ⟨-, ht⟩ | ⟨-, ht⟩ := decodeLife_cases t <;> cases ht.symm.trans h <;> rfl

theorem wellFormed_of_decode {c : Config} {t : Transaction} {i : Instr} (h : decode c t = .ok i) :
    WellFormed c i = true := by
  obtain ⟨-, ht⟩ | ⟨-, ht⟩ | ⟨-, ht⟩ | ⟨-, ht⟩ := decode_cases c t
  · cases ht.symm.trans h; rfl
  · cases ht.symm.trans h; exact wellFormed_decodeRead c _
  · cases ht.symm.trans h; exact wellFormed_decodeWrite c _ _
  · exact wellFormed_of_decodeLife (ht.symm.trans h)

/-- The decoder refuses exactly the `LIFE` word with sub-operation 3 (R75, R80). -/
theorem decode_eq_error_iff (c : Config) (t : Transaction) :
    decode c t = .error .lifeSubOperationThree ↔ kindField t = 3#2 ∧ subOperation t = 3#2 := by
  obtain ⟨hk, h⟩ | ⟨hk, h⟩ | ⟨hk, h⟩ | ⟨hk, h⟩ := decode_cases c t
  case inr.inr.inr =>
    obtain ⟨hs, h'⟩ | ⟨hs, h'⟩ | ⟨hs, h'⟩ | ⟨hs, h'⟩ := decodeLife_cases t <;> simp [h, h', hk, hs]
  all_goals simp [h, hk]

/-- Settles O6: `kind` and the sub-operation alone decide whether a word is refused. -/
theorem decodedOperationsAreWellFormed : Obligations.DecodedOperationsAreWellFormed := by
  refine ⟨fun c t i => wellFormed_of_decode, fun c t => ?refused⟩
  case refused =>
    refine Iff.trans ⟨?_, fun h => ⟨_, h⟩⟩ (decode_eq_error_iff c t)
    rintro ⟨⟨⟩, h⟩
    exact h

/-- Settles O4: each vector is one evaluation of the decoder. -/
theorem sampleWordsDecodeAsWritten : Obligations.SampleWordsDecodeAsWritten := by
  unfold Obligations.SampleWordsDecodeAsWritten
  decide

end Sys2Proof
end

section
/-! SUPPORT. One step of the machine (R62), and what an operation leaves as it was around the device it addresses:
the configuration and the other devices (R8, R226). -/

namespace Sys2Proof.Machine

/-! ### A step by the host's next request -/

theorem step_idle {s : State} (h : s.inbox = []) : step s = .next s := by
  simp [step, takeRequest, h]

theorem step_of_decode_ok {s : State} {r : Request} {rest : List Request} {i : Instr} (h : s.inbox = r :: rest)
    (hi : decode s.config r.word = .ok i) : step s = exec i (s.accept r rest) := by
  simp [step, takeRequest, h, hi]

theorem step_of_decode_error {s : State} {r : Request} {rest : List Request} {e : DecodeError}
    (h : s.inbox = r :: rest) (he : decode s.config r.word = .error e) :
    step s = .refused (.noSuchOperation r.word) := by
  simp [step, takeRequest, h, he]

/-- A step with a next state is idle, or performs the operation that the host's next request spells. -/
theorem step_next {s t : State} (h : step s = .next t) :
    (s.inbox = [] ∧ t = s) ∨ ∃ r rest i, s.inbox = r :: rest ∧ exec i (s.accept r rest) = .next t := by
  cases hin : s.inbox with
  | nil =>
    cases (step_idle hin).symm.trans h
    exact .inl ⟨rfl, rfl⟩
  | cons r rest =>
    cases hw : decode s.config r.word with
    | error e => cases (step_of_decode_error hin hw).symm.trans h
    | ok i => exact .inr ⟨r, rest, i, rfl, (step_of_decode_ok hin hw).symm.trans h⟩

/-- Settles O2. -/
theorem stepPerformsTheDecodedOperation : Obligations.StepPerformsTheDecodedOperation :=
  fun _ _ _ _ h hi => step_of_decode_ok h hi

/-- Settles O3: kind 3 with sub-operation 3 is the word that the decoder refuses. -/
theorem stepWithoutAnOperation : Obligations.StepWithoutAnOperation :=
  ⟨fun _ h => step_idle h, fun s r _ h hkind hsub =>
    step_of_decode_error h ((decode_eq_error_iff s.config r.word).2 ⟨hkind, hsub⟩)⟩

/-! ### What stands around the addressed device -/

/-- An expiry reaches the device and its history only. -/
theorem expire_config_others (s : State) (d : Device) (b : BusRef) :
    (expire s d b).config = s.config ∧ (expire s d b).others = s.others := by
  obtain ⟨-, h⟩ | ⟨-, h | ⟨frame, -, h⟩⟩ := expire_cases s d b <;> rw [h] <;> exact ⟨rfl, rfl⟩

/-- No operation but `CREATE` reaches the configuration or another device. -/
theorem exec_config_others {i : Instr} {s t : State} (h : exec i s = .next t) (hi : i ≠ .create) :
    t.config = s.config ∧ t.others = s.others := by
  obtain ⟨hc, -⟩ | ⟨-, _, -, rfl⟩ | ⟨d, -, -, -, heffect⟩ := exec_next h
  · exact absurd hc hi
  · exact ⟨rfl, rfl⟩ -- a `DESTROY`
  obtain ⟨_, _, -, -, rfl⟩ | ⟨-, -, rfl⟩ | ⟨_, _, -, -, -, rfl⟩ | ⟨_, _, -, -, -, rfl⟩ | ⟨-, -, rfl⟩ |
    ⟨_, -, rfl⟩ | ⟨-, -, b, -, rfl⟩ | ⟨-, -, rfl⟩ | ⟨-, rfl⟩ := heffect
  · exact ⟨rfl, rfl⟩ -- a read
  · exact ⟨rfl, rfl⟩ -- a read that faults
  · exact ⟨rfl, rfl⟩ -- a plain store
  · exact ⟨rfl, rfl⟩ -- a store that derives the RenderArea
  · exact ⟨rfl, rfl⟩ -- an acknowledge
  · exact ⟨rfl, rfl⟩ -- an access out of range
  · exact expire_config_others s d b -- an expiry
  · exact ⟨rfl, rfl⟩ -- a `STEP` off expiry
  · exact ⟨rfl, rfl⟩ -- a `CONNECT`

/-- Nor does `CREATE` reach the configuration (log entry 22). -/
theorem exec_config {i : Instr} {s t : State} (h : exec i s = .next t) : t.config = s.config := by
  by_cases hi : i = .create
  · subst hi
    obtain ⟨-, rfl⟩ | ⟨-, rfl⟩ := execCreate_next h <;> rfl
  · exact (exec_config_others h hi).1

/-- Settles O49. -/
theorem noOperationChangesTheConfiguration : Obligations.NoOperationChangesTheConfiguration := by
  refine ⟨fun _ _ _ => exec_config, fun s t h => ?step⟩
  obtain ⟨-, rfl⟩ | ⟨r, rest, i, -, hexec⟩ := step_next h
  · rfl
  · rw [exec_config hexec, State.accept_config]

/-- A `CREATE` sets the addressed device aside, if there is one. -/
theorem parkDevice_eq (s : State) :
    (s.device = none ∧ s.parkDevice = s.others) ∨
      ∃ d, s.device = some d ∧ s.parkDevice = ⟨d, s.history, s.replies⟩ :: s.others := by
  unfold State.parkDevice
  split
  · next hd => exact .inl ⟨hd, rfl⟩
  · next d hd => exact .inr ⟨d, hd, rfl⟩

/-- Settles O42: only a `CREATE` writes the list of the others, and it puts one in front. -/
theorem otherDevicesAreUntouched : Obligations.OtherDevicesAreUntouched := by
  intro i s t h
  by_cases hi : i = .create
  · subst hi
    obtain ⟨-, rfl⟩ | ⟨-, rfl⟩ := execCreate_next h
    · exact .inl rfl -- the setup failed
    · obtain ⟨-, hpark⟩ | ⟨d, hd, hpark⟩ := parkDevice_eq s
      · exact .inl hpark
      · exact .inr ⟨rfl, d, hd, hpark⟩
  · exact .inl (exec_config_others h hi).2

end Sys2Proof.Machine
end

section
/-! SUPPORT. The invariants of R241 for one device and its output history, kept by each of the effects an operation
can have on it, and the invariants of the whole block. -/

namespace Sys2Proof.Machine

/-! ### One device -/

/-- A plain store is to no register the GeometryEngine reads (R36, R160). -/
theorem Regs.renderArea_write_of_store {r : RegName} (h : writeEffect r = .store) (x : Regs) (v : Word)
    (k : Variant) : (x.write r v).renderArea k = x.renderArea k := by
  cases r <;> first | rfl | cases h

/-- No store reaches the slot of `VI_CURRENT` (R26). -/
theorem Regs.viCurrent_write {r : RegName} (h : writeEffect r ≠ .acknowledge) (x : Regs) (v : Word) :
    (x.write r v).viCurrent = x.viCurrent :=
  Regs.read_write_other x v (ne_viCurrent_of_writeEffect_ne_acknowledge h).symm

/-- The reset device has the RenderArea of its registers: all zero gives all zero (R47, R39). -/
theorem deviceOk_reset (c : Config) : DeviceOk c (Device.reset c) [] := by
  refine ⟨BitVec.le_refl _, ?area, rfl, rfl⟩
  change RenderArea.reset = Regs.reset.renderArea c.variant
  cases c.variant
  decide

namespace DeviceOk
variable {c : Config} {d : Device} {hist : List Event}

/-- A fault adds an event that is no level change (R214). -/
theorem halt (h : DeviceOk c d hist) (cause : HaltCause) :
    DeviceOk c { d with halted := some cause } (hist ++ [.fatal cause]) := by
  obtain ⟨hcount, harea, hcur, hirq⟩ := h
  exact ⟨hcount, harea, hcur, by rw [irqLevel_append]; exact hirq⟩

theorem store {r : RegName} (h : DeviceOk c d hist) (hr : writeEffect r = .store) (v : Word) :
    DeviceOk c (d.store r v) hist := by
  obtain ⟨hcount, harea, hcur, hirq⟩ := h
  exact ⟨hcount, harea.trans (Regs.renderArea_write_of_store hr d.regs v _).symm,
    (Regs.viCurrent_write (by simp [hr]) d.regs v).trans hcur, hirq⟩

/-- A store that recomputes makes the RenderArea clause true by itself (R39, R170). -/
theorem storeAndDerive {r : RegName} (h : DeviceOk c d hist) (hr : writeEffect r = .storeAndDerive) (v : Word) :
    DeviceOk c ((d.store r v).derive c.variant) hist := by
  obtain ⟨hcount, -, hcur, hirq⟩ := h
  exact ⟨hcount, rfl, (Regs.viCurrent_write (by simp [hr]) d.regs v).trans hcur, hirq⟩

theorem clearIrq (h : DeviceOk c d hist) (line : Nat) : DeviceOk c d.clearIrq (hist ++ [.clearIrq line]) := by
  obtain ⟨hcount, harea, hcur, -⟩ := h
  exact ⟨hcount, harea, hcur, by rw [irqLevel_append]; rfl⟩

/-- The reload leaves the counter one below `RELOAD`, whatever the history was (R144 to R146). -/
theorem reload (h : DeviceOk c d hist) (hc : validConfig c = true) (hist' : List Event) (line : Nat) :
    DeviceOk c { d with irq := true, cyclesRemaining := c.reload - 1#32 } (hist' ++ [.raiseIrq line]) := by
  obtain ⟨-, harea, hcur, -⟩ := h
  have hpos : 1 ≤ c.reload.toNat := reload_pos hc
  have hcount : c.reload - 1#32 ≤ c.reload := by bv_omega
  exact ⟨hcount, harea, hcur, by rw [irqLevel_append]; rfl⟩

theorem decrement (h : DeviceOk c d hist) (hz : d.cyclesRemaining ≠ 0#32) :
    DeviceOk c { d with cyclesRemaining := d.cyclesRemaining - 1#32 } hist := by
  obtain ⟨hcount, harea, hcur, hirq⟩ := h
  have hcount' : d.cyclesRemaining - 1#32 ≤ c.reload := by bv_omega
  exact ⟨hcount', harea, hcur, hirq⟩

end DeviceOk

/-- An expiry leaves a device behind that meets the invariants with the history it leaves (R143). -/
theorem expire_deviceOk {s : State} {d : Device} (hc : validConfig s.config = true)
    (h : DeviceOk s.config d s.history) (b : BusRef) :
    ∃ e, (expire s d b).device = some e ∧ DeviceOk s.config e (expire s d b).history := by
  obtain ⟨-, heq⟩ | ⟨-, heq | ⟨frame, -, heq⟩⟩ := expire_cases s d b <;> rw [heq]
  · exact ⟨_, rfl, h.halt _⟩
  · exact ⟨_, rfl, h.reload hc _ _⟩
  · exact ⟨_, rfl, h.reload hc _ _⟩

/-- Every operation other than `CREATE` keeps the invariants of the device it addresses. -/
theorem exec_deviceOk {i : Instr} {s t : State} {d d' : Device} (hc : validConfig s.config = true)
    (hd : s.device = some d) (hok : DeviceOk s.config d s.history) (h : exec i s = .next t)
    (hd' : t.device = some d') (hi : i ≠ .create) : DeviceOk s.config d' t.history := by
  have ok_of_device {e : Device} (he : t.device = some e) (hok' : DeviceOk s.config e t.history) :
      DeviceOk s.config d' t.history := by
    obtain rfl : e = d' := Option.some.inj (he.symm.trans hd')
    exact hok'
  obtain ⟨hcreate, -⟩ | ⟨-, _, -, rfl⟩ | ⟨e, ⟨he, -⟩, -, -, heffect⟩ := exec_next h
  · exact absurd hcreate hi
  · cases hd'
  obtain rfl : e = d := Option.some.inj (he.symm.trans hd)
  obtain ⟨_, _, -, -, rfl⟩ | ⟨-, -, rfl⟩ | ⟨_, v, -, -, hr, rfl⟩ | ⟨_, v, -, -, hr, rfl⟩ | ⟨-, -, rfl⟩ |
    ⟨_, -, rfl⟩ | ⟨-, -, b, -, rfl⟩ | ⟨-, hz, rfl⟩ | ⟨-, rfl⟩ := heffect
  · exact ok_of_device he hok -- a read
  · exact ok_of_device rfl (hok.halt _) -- a read that faults
  · exact ok_of_device rfl (hok.store hr v) -- a plain store
  · exact ok_of_device rfl (hok.storeAndDerive hr v) -- a store that derives the RenderArea
  · exact ok_of_device rfl (hok.clearIrq _) -- an acknowledge
  · exact ok_of_device rfl (hok.halt _) -- an access out of range
  · obtain ⟨_, hdev, hok'⟩ := expire_deviceOk hc hok b
    exact ok_of_device hdev hok' -- an expiry
  · exact ok_of_device rfl (hok.decrement hz) -- a `STEP` off expiry
  · exact ok_of_device rfl hok -- a `CONNECT`

/-! ### The whole block -/

/-- `CREATE` keeps the invariants: the new device is a reset one, and the one set aside met them. -/
theorem execCreate_blockInv {s t : State} (hs : BlockInv s) (h : execCreate s = .next t) : BlockInv t := by
  obtain ⟨hc, hdev, hothers⟩ := hs
  obtain ⟨-, rfl⟩ | ⟨-, rfl⟩ := execCreate_next h
  · exact ⟨hc, hdev, hothers⟩
  refine ⟨hc, ?fresh, ?parked⟩
  case fresh =>
    rintro _ ⟨⟩
    exact deviceOk_reset s.config
  case parked =>
    change ∀ p ∈ s.parkDevice, DeviceOk s.config p.device p.history
    obtain ⟨-, hpark⟩ | ⟨d, hd, hpark⟩ := parkDevice_eq s <;> rw [hpark]
    · exact hothers
    · exact List.forall_mem_cons.2 ⟨hdev d hd, hothers⟩

theorem exec_blockInv {i : Instr} {s t : State} (hs : BlockInv s) (h : exec i s = .next t) : BlockInv t := by
  by_cases hi : i = .create
  · subst hi
    exact execCreate_blockInv hs h
  obtain ⟨hc, hdev, hothers⟩ := hs
  obtain ⟨hconfig, heq⟩ := exec_config_others h hi
  obtain ⟨d, hd⟩ := exec_device_before h hi
  rw [BlockInv, hconfig, heq]
  exact ⟨hc, fun d' hd' => exec_deviceOk hc hd (hdev d hd) h hd' hi, hothers⟩

/-- Settles O43: taking the request off the inbox touches nothing the invariants speak of. -/
theorem stepKeepsTheInvariant : Obligations.StepKeepsTheInvariant := by
  intro s t hs h
  obtain ⟨-, rfl⟩ | ⟨r, rest, i, -, hexec⟩ := step_next h
  · exact hs
  · have haccept : BlockInv (s.accept r rest) := hs
    exact exec_blockInv haccept hexec

theorem blockInv_resetOf {c : Config} (hc : validConfig c = true) : BlockInv (State.resetOf c) := by
  refine ⟨hc, ?_, nofun⟩
  rintro _ ⟨⟩
  exact deviceOk_reset c

/-- Settles O44. -/
theorem resetMeetsTheInvariant : Obligations.ResetMeetsTheInvariant :=
  ⟨fun _ => blockInv_resetOf, blockInv_resetOf validConfig_default⟩

/-- Settles O1: every field of the reset device is written out in the model. -/
theorem resetLeavesTheStatedState : Obligations.ResetLeavesTheStatedState :=
  ⟨fun c => ⟨Device.reset c, rfl, Regs.read_reset, rfl, rfl, rfl, rfl, rfl, rfl, rfl, rfl⟩, rfl⟩

end Sys2Proof.Machine
end

section
/-! SUPPORT. The address decode as arithmetic (R76): the window of any valid configuration, and at the defaults the
bit test of R77. -/

namespace Sys2Proof.Machine

/-! ### Masks as division and remainder -/

/-- A word without its low `k` bits. -/
theorem toNat_and_highMask (x : Word) (k : Nat) :
    (x &&& BitVec.allOnes 32 <<< k).toNat = x.toNat / 2 ^ k * 2 ^ k := by
  have hshift : x &&& BitVec.allOnes 32 <<< k = x >>> k <<< k := by
    ext i hi
    by_cases hk : i < k
    · simp [hk]
    · simp [hk, show k + (i - k) = i by omega, BitVec.getLsbD_eq_getElem hi, -BitVec.reduceAllOnes]
  have hle : x.toNat / 2 ^ k * 2 ^ k < 2 ^ 32 := (Nat.div_mul_le_self _ _).trans_lt x.isLt
  rw [hshift, BitVec.toNat_shiftLeft, BitVec.toNat_ushiftRight, Nat.shiftLeft_eq, Nat.shiftRight_eq_div_pow,
    Nat.mod_eq_of_lt hle]

/-- A word without its two low bits: the address of the word around it (R55, D4). -/
theorem toNat_wordAligned (a : Word) : (a &&& 0xFFFFFFFC#32).toNat = a.toNat / 4 * 4 :=
  toNat_and_highMask a 2

/-- A word without its six low bits: the 64-byte block it stands in (R77). -/
theorem toNat_blockAligned (a : Word) : (a &&& 0xFFFFFFC0#32).toNat = a.toNat / 64 * 64 :=
  toNat_and_highMask a 6

/-- `addr[5:2]` (R77). -/
theorem toNat_indexBits (a : Word) : ((a >>> 2) &&& 0xF#32).toNat = a.toNat / 4 % 16 := by
  rw [BitVec.toNat_and, BitVec.toNat_ushiftRight, Nat.shiftRight_eq_div_pow]
  exact Nat.and_two_pow_sub_one_eq_mod _ 4

/-! ### The window of a valid configuration (R51, R76) -/

/-- The window offset as a number: the distance from `VI_BASE`, with the wrap for an address below it. -/
theorem windowOffset_eq (c : Config) (a : Word) :
    windowOffset c a = if c.viBase.toNat ≤ a.toNat then a.toNat - c.viBase.toNat
      else a.toNat + 2 ^ 32 - c.viBase.toNat := by
  unfold windowOffset
  split <;> bv_omega

theorem index_lt_numRegs {c : Config} {r : RegName} (h : r ∈ c.registers) : c.index r < c.numRegs :=
  List.idxOf_lt_length_of_mem h

section Window
variable {c : Config} (hc : validConfig c = true)
include hc

/-- The window does not pass the end of the address space, so the wrap puts an address below it past its end. -/
theorem inRange_iff_window (a : Word) :
    inRange c a = true ↔ c.viBase.toNat ≤ a.toNat ∧ a.toNat < c.viBase.toNat + c.viLen := by
  obtain ⟨-, -, -, hend, -, -⟩ := (validConfig_iff c).1 hc
  rw [inRange_iff, windowOffset_eq]
  rw [Config.viLen] at hend ⊢
  split <;> omega

/-- A register of the enumeration is selected by the four addresses of its word. -/
theorem regOf_iff_window (a : Word) (r : RegName) :
    regOf c a = some r ↔ r ∈ c.registers ∧ c.viBase.toNat + 4 * c.index r ≤ a.toNat ∧
      a.toNat < c.viBase.toNat + 4 * c.index r + 4 := by
  obtain ⟨hnodup, -, -, hend, -, -⟩ := (validConfig_iff c).1 hc
  rw [regOf_eq_some hnodup]
  refine and_congr_right fun hr => ?_
  have hidx := index_lt_numRegs hr
  rw [Config.viLen] at hend
  rw [windowOffset_eq]
  split <;> omega

end Window

/-- Settles O50. -/
theorem windowOfAnyConfiguration : Obligations.WindowOfAnyConfiguration :=
  fun c hc => ⟨inRange_iff_window hc, regOf_iff_window hc, regOf_eq_none c⟩

/-! ### The default window (R77) -/

theorem default_viBase_toNat : defaultConfig.viBase.toNat = 0x04400000 := rfl
theorem default_viLen : defaultConfig.viLen = 56 := rfl

theorem default_index_le (r : RegName) : defaultConfig.index r ≤ 13 :=
  Nat.le_of_lt_succ (index_lt_numRegs (mem_default_registers r))

/-- The first address of the word of `r` at the defaults. -/
def wordAddress (r : RegName) : Word := defaultConfig.viBase + BitVec.ofNat 32 (4 * defaultConfig.index r)

theorem toNat_wordAddress (r : RegName) :
    (wordAddress r).toNat = 0x04400000 + 4 * defaultConfig.index r := by
  have hidx := default_index_le r
  rw [wordAddress, BitVec.toNat_add, BitVec.toNat_ofNat, default_viBase_toNat]
  omega

/-- `VI_BASE` is a multiple of 64 and the window shorter than 64 bytes, so block and index decide (R77). -/
theorem inRange_default_iff (a : Word) : inRange defaultConfig a = true ↔
    a &&& 0xFFFFFFC0#32 = 0x04400000#32 ∧ ((a >>> 2) &&& 0xF#32).toNat ≤ 13 := by
  rw [inRange_iff_window validConfig_default, ← BitVec.toNat_inj, toNat_blockAligned, toNat_indexBits,
    default_viBase_toNat, default_viLen]
  simp only [BitVec.reduceToNat]
  omega

/-- An address selects `r` at the defaults exactly in the four bytes from its word's address. -/
theorem regOf_default_iff (a : Word) (r : RegName) : regOf defaultConfig a = some r ↔
    0x04400000 + 4 * defaultConfig.index r ≤ a.toNat ∧ a.toNat < 0x04400000 + 4 * defaultConfig.index r + 4 := by
  rw [regOf_iff_window validConfig_default, default_viBase_toNat]
  exact and_iff_right (mem_default_registers r)

theorem regOf_default_iff_bits (a : Word) (r : RegName) : regOf defaultConfig a = some r ↔
    a &&& 0xFFFFFFC0#32 = 0x04400000#32 ∧ ((a >>> 2) &&& 0xF#32).toNat = defaultConfig.index r := by
  have hidx := default_index_le r
  rw [regOf_default_iff, ← BitVec.toNat_inj, toNat_blockAligned, toNat_indexBits]
  simp only [BitVec.reduceToNat]
  omega

/-- An address selects `r` exactly when its word is the one of `r`. -/
theorem regOf_default_iff_wordAddress (a : Word) (r : RegName) :
    regOf defaultConfig a = some r ↔ a &&& 0xFFFFFFFC#32 = wordAddress r := by
  rw [regOf_default_iff, ← BitVec.toNat_inj, toNat_wordAligned, toNat_wordAddress]
  omega

/-- Settles O8. -/
theorem addressDecodeIsTheBitTest : Obligations.AddressDecodeIsTheBitTest :=
  ⟨inRange_default_iff, regOf_default_iff_bits, regOf_default_iff_wordAddress, regOf_eq_none defaultConfig⟩

/-! ### The parameters (R8) -/

/-- Settles O47: the default configuration is closed data. -/
theorem defaultParametersAreTheSpecs : Obligations.DefaultParametersAreTheSpecs := by
  unfold Obligations.DefaultParametersAreTheSpecs
  decide

/-- Settles O48. -/
theorem validConfigurationsMeetTheConstraints : Obligations.ValidConfigurationsMeetTheConstraints := by
  intro c hc
  obtain ⟨-, -, -, hend, hrefresh, -⟩ := (validConfig_iff c).1 hc
  exact ⟨rfl, hend, hrefresh, reload_toNat hc, reload_pos hc, c.reload.isLt⟩

end Sys2Proof.Machine
end

section
/-! SUPPORT. The opcode table read by mask and match (R71, R79, R80): a row is a condition on the fields of the word,
and the rows of the registers are selected as the address decode selects a register. -/

namespace Sys2Proof

open Machine (RegName regOf defaultConfig wordAddress regOf_default_iff_wordAddress mem_default_registers)

/-! ### A word by its three fields -/

theorem pack_fields (t : Transaction) : pack (kindField t) (addrField t) (dataField t) = t := by
  apply BitVec.eq_of_getLsbD_eq
  intro j hj
  rw [getLsbD_pack]
  split
  · next h => simp [dataField, h]
  split
  · next h h' => simp [addrField, h', show 32 + (j - 32) = j by omega]
  · next h h' => simp [kindField, show j - 32 - 32 < 2 by omega, show 64 + (j - 32 - 32) = j by omega]

theorem transaction_ext_iff {t u : Transaction} :
    t = u ↔ kindField t = kindField u ∧ addrField t = addrField u ∧ dataField t = dataField u := by
  refine ⟨fun h => h ▸ ⟨rfl, rfl, rfl⟩, fun ⟨hk, ha, hd⟩ => ?_⟩
  rw [← pack_fields t, ← pack_fields u, hk, ha, hd]

/-- A masked word is a match exactly where each field is (R71). -/
theorem and_pack_eq_pack_iff (t : Transaction) (k k' : BitVec 2) (a a' d d' : Word) :
    t &&& pack k a d = pack k' a' d' ↔
      kindField t &&& k = k' ∧ addrField t &&& a = a' ∧ dataField t &&& d = d' := by
  have hkind : kindField (t &&& pack k a d) = kindField t &&& kindField (pack k a d) := BitVec.extractLsb'_and
  have haddr : addrField (t &&& pack k a d) = addrField t &&& addrField (pack k a d) := BitVec.extractLsb'_and
  have hdata : dataField (t &&& pack k a d) = dataField t &&& dataField (pack k a d) := BitVec.extractLsb'_and
  rw [transaction_ext_iff, hkind, haddr, hdata]
  simp only [kindField_pack, addrField_pack, dataField_pack]

/-- A row whose mask holds the whole of `kind` and none of `data`, as every row's does. -/
theorem selectedBy_pack_iff (name : String) (kind : BitVec 2) (a mask : Word) (isDefault : Bool) (t : Transaction) :
    (OpcodeRow.mk name (pack kind a 0#32) (pack 3#2 mask 0#32) isDefault).selectedBy t = true ↔
      kindField t = kind ∧ addrField t &&& mask = a := by
  have hkind : kindField t &&& 3#2 = kindField t := BitVec.and_allOnes
  rw [OpcodeRow.selectedBy, beq_iff_eq, and_pack_eq_pack_iff, hkind, BitVec.and_zero]
  simp only [and_true]

/-! ### The rows of the table -/

/-- The row of a bus operation on `r`: its kind, and the address of the word of `r` without the two low bits (R55). -/
def busRow (kind : BitVec 2) (op : Word → Instr) (r : RegName) : OpcodeRow :=
  ⟨(op (wordAddress r)).mnemonic, pack kind (wordAddress r) 0#32, pack 3#2 0xFFFFFFFC#32 0#32, false⟩

/-- The row of a bus operation out of range: its kind alone. -/
def outOfRangeRow (kind : BitVec 2) (name : String) : OpcodeRow :=
  ⟨name, pack kind 0#32 0#32, pack 3#2 0#32 0#32, true⟩

/-- The row of a `LIFE` operation: its kind and sub-operation (R75). -/
def lifeRow (sub : BitVec 2) (i : Instr) : OpcodeRow :=
  ⟨i.mnemonic, pack 3#2 (sub.setWidth 32) 0#32, pack 3#2 3#32 0#32, false⟩

def tickRow : OpcodeRow := ⟨"STEP", pack 0#2 0#32 0#32, pack 3#2 0#32 0#32, false⟩

def decodeReadDefault : Word → Instr := decodeRead defaultConfig
def decodeWriteDefault (a : Word) : Instr := decodeWrite defaultConfig a 0#32

theorem otherRows_eq :
    otherRows = [tickRow, lifeRow 0#2 .create, lifeRow 1#2 .connect, lifeRow 2#2 .destroy] := by decide

theorem readRows_eq : readRows =
    defaultConfig.registers.map (busRow 1#2 decodeReadDefault) ++ [outOfRangeRow 1#2 "RD__out_of_range"] := by
  decide

theorem writeRows_eq : writeRows =
    defaultConfig.registers.map (busRow 2#2 decodeWriteDefault) ++ [outOfRangeRow 2#2 "WR__out_of_range"] := by
  decide

theorem busRow_selectedBy (kind : BitVec 2) (op : Word → Instr) (r : RegName) (t : Transaction) :
    (busRow kind op r).selectedBy t = true ↔ kindField t = kind ∧ regOf defaultConfig (addrField t) = some r := by
  rw [busRow, selectedBy_pack_iff, regOf_default_iff_wordAddress]

theorem outOfRangeRow_selectedBy (kind : BitVec 2) (name : String) (t : Transaction) :
    (outOfRangeRow kind name).selectedBy t = true ↔ kindField t = kind := by
  rw [outOfRangeRow, selectedBy_pack_iff, BitVec.and_zero]
  exact and_iff_left rfl

theorem tickRow_selectedBy (t : Transaction) : tickRow.selectedBy t = true ↔ kindField t = 0#2 := by
  rw [tickRow, selectedBy_pack_iff, BitVec.and_zero]
  exact and_iff_left rfl

/-- The sub-operation stands in the two low bits of the address (R75). -/
theorem addrField_and_three (t : Transaction) : addrField t &&& 3#32 = (subOperation t).setWidth 32 := by
  apply BitVec.eq_of_toNat_eq
  have hlow : (addrField t &&& 3#32).toNat = (addrField t).toNat % 4 :=
    (BitVec.toNat_and _ _).trans (Nat.and_two_pow_sub_one_eq_mod _ 2)
  rw [hlow, addrField, subOperation, BitVec.toNat_setWidth, BitVec.extractLsb'_toNat, BitVec.extractLsb'_toNat]
  omega

theorem lifeRow_selectedBy (sub : BitVec 2) (i : Instr) (t : Transaction) :
    (lifeRow sub i).selectedBy t = true ↔ kindField t = 3#2 ∧ subOperation t = sub := by
  rw [lifeRow, selectedBy_pack_iff, addrField_and_three]
  refine and_congr_right fun _ => ⟨fun h => ?_, fun h => h ▸ rfl⟩
  simpa using congrArg (BitVec.setWidth 2) h

/-! ### Selection -/

/-- Among the rows of the registers, a word of their kind selects the one of the register its address selects. -/
theorem filter_busRows (kind : BitVec 2) (op : Word → Instr) (t : Transaction) :
    ((defaultConfig.registers.map (busRow kind op)).filter fun r => r.selectedBy t) =
      if kindField t = kind then ((regOf defaultConfig (addrField t)).map (busRow kind op)).toList else [] := by
  have hselected (r : RegName) : (busRow kind op r).selectedBy t =
      decide (kindField t = kind ∧ regOf defaultConfig (addrField t) = some r) := by
    rw [Bool.eq_iff_iff, decide_eq_true_iff, busRow_selectedBy]
  rw [List.filter_map, Function.comp_def]
  simp only [hselected]
  split
  · next hk =>
    cases hreg : regOf defaultConfig (addrField t) with
    | none => simp
    | some r =>
      have hcount : defaultConfig.registers.count r = 1 :=
        List.count_eq_one_of_mem (by decide) (mem_default_registers r)
      have hone : (defaultConfig.registers.filter fun q => decide (r = q)) = [r] := by
        simp only [eq_comm (a := r), List.filter_eq, hcount, List.replicate_one]
      simp [hk, hone]
  · next hk => simp [hk]

/-- The rows that match a word, the default rows left out. -/
def namedRows (t : Transaction) : List OpcodeRow := opcodeRows.filter fun r => !r.isDefault && r.selectedBy t

/-- The default rows that match a word. -/
def defaultRows (t : Transaction) : List OpcodeRow := opcodeRows.filter fun r => r.isDefault && r.selectedBy t

/-- A default row is selected only where no other row matches (R80). -/
theorem rowsSelected_eq (t : Transaction) :
    rowsSelected t = if namedRows t = [] then defaultRows t else namedRows t := rfl

theorem namedRows_eq (t : Transaction) : namedRows t =
    otherRows.filter (fun r => r.selectedBy t) ++
      ((if kindField t = 1#2 then ((regOf defaultConfig (addrField t)).map (busRow 1#2 decodeReadDefault)).toList
        else []) ++
      (if kindField t = 2#2 then ((regOf defaultConfig (addrField t)).map (busRow 2#2 decodeWriteDefault)).toList
        else [])) := by
  have hbus (kind : BitVec 2) (op : Word → Instr) :
      ((defaultConfig.registers.map (busRow kind op)).filter fun r => !r.isDefault && r.selectedBy t) =
        (defaultConfig.registers.map (busRow kind op)).filter fun r => r.selectedBy t := by
    simp [List.filter_map, Function.comp_def, busRow]
  have hrange (kind : BitVec 2) (name : String) :
      ([outOfRangeRow kind name].filter fun r => !r.isDefault && r.selectedBy t) = [] := rfl
  have hother : (otherRows.filter fun r => !r.isDefault && r.selectedBy t) =
      otherRows.filter fun r => r.selectedBy t := rfl
  simp only [namedRows, opcodeRows, readRows_eq, writeRows_eq, List.filter_append, hbus, hrange, hother,
    filter_busRows, List.append_nil, List.nil_append, List.append_assoc]

theorem defaultRows_eq (t : Transaction) : defaultRows t =
    (if kindField t = 1#2 then [outOfRangeRow 1#2 "RD__out_of_range"] else []) ++
      (if kindField t = 2#2 then [outOfRangeRow 2#2 "WR__out_of_range"] else []) := by
  have hbus (kind : BitVec 2) (op : Word → Instr) :
      ((defaultConfig.registers.map (busRow kind op)).filter fun r => r.isDefault && r.selectedBy t) = [] := by
    simp [List.filter_map, Function.comp_def, busRow]
  have hrange (kind : BitVec 2) (name : String) :
      ([outOfRangeRow kind name].filter fun r => r.isDefault && r.selectedBy t) =
        if kindField t = kind then [outOfRangeRow kind name] else [] := by
    have hdefault : (outOfRangeRow kind name).isDefault = true := rfl
    simp [List.filter_cons, hdefault, outOfRangeRow_selectedBy]
  have hother : (otherRows.filter fun r => r.isDefault && r.selectedBy t) = [] := rfl
  simp only [defaultRows, opcodeRows, readRows_eq, writeRows_eq, List.filter_append, hbus, hrange, hother,
    List.nil_append]

/-! ### The row selected, by the format of the word -/

/-- What a word selects among the rows without an address. -/
theorem filter_otherRows (t : Transaction) : (otherRows.filter fun r => r.selectedBy t) =
    (if kindField t = 0#2 then [tickRow] else []) ++
      ((if kindField t = 3#2 ∧ subOperation t = 0#2 then [lifeRow 0#2 .create] else []) ++
      ((if kindField t = 3#2 ∧ subOperation t = 1#2 then [lifeRow 1#2 .connect] else []) ++
      (if kindField t = 3#2 ∧ subOperation t = 2#2 then [lifeRow 2#2 .destroy] else []))) := by
  have hsingle (r : OpcodeRow) (l : List OpcodeRow) : ((r :: l).filter fun r => r.selectedBy t) =
      (if r.selectedBy t = true then [r] else []) ++ l.filter fun r => r.selectedBy t := by
    rw [List.filter_cons]
    split <;> rfl
  simp only [otherRows_eq, hsingle, List.filter_nil, List.append_nil, tickRow_selectedBy, lifeRow_selectedBy]

theorem rowsSelected_of_tick {t : Transaction} (hk : kindField t = 0#2) : rowsSelected t = [tickRow] := by
  simp [rowsSelected_eq, namedRows_eq, filter_otherRows, hk]

/-- A `BUS_READ` word selects the row of its register, or the default row of its kind. -/
theorem rowsSelected_of_read {t : Transaction} (hk : kindField t = 1#2) : rowsSelected t =
    [((regOf defaultConfig (addrField t)).map (busRow 1#2 decodeReadDefault)).getD
      (outOfRangeRow 1#2 "RD__out_of_range")] := by
  cases hreg : regOf defaultConfig (addrField t) <;>
    simp [rowsSelected_eq, namedRows_eq, defaultRows_eq, filter_otherRows, hk, hreg]

/-- And so does a `BUS_WRITE` word. -/
theorem rowsSelected_of_write {t : Transaction} (hk : kindField t = 2#2) : rowsSelected t =
    [((regOf defaultConfig (addrField t)).map (busRow 2#2 decodeWriteDefault)).getD
      (outOfRangeRow 2#2 "WR__out_of_range")] := by
  cases hreg : regOf defaultConfig (addrField t) <;>
    simp [rowsSelected_eq, namedRows_eq, defaultRows_eq, filter_otherRows, hk, hreg]

/-- A `LIFE` word selects the row of its sub-operation, and none for 3. -/
theorem rowsSelected_of_life {t : Transaction} (hk : kindField t = 3#2) : rowsSelected t =
    (if subOperation t = 0#2 then [lifeRow 0#2 .create] else []) ++
      ((if subOperation t = 1#2 then [lifeRow 1#2 .connect] else []) ++
      (if subOperation t = 2#2 then [lifeRow 2#2 .destroy] else [])) := by
  simp [rowsSelected_eq, namedRows_eq, defaultRows_eq, filter_otherRows, hk]

/-! ### The row is the one of the operation decoded -/

/-- The address of the word of `r` selects `r`. -/
theorem regOf_wordAddress (r : RegName) : regOf defaultConfig (wordAddress r) = some r := by
  cases r <;> decide

/-- Which read an address names does not depend on its two low bits. -/
theorem mnemonic_decodeRead {a b : Word} (h : regOf defaultConfig a = regOf defaultConfig b) :
    (decodeRead defaultConfig a).mnemonic = (decodeRead defaultConfig b).mnemonic := by
  unfold decodeRead
  rw [h]
  split <;> rfl

/-- Nor which write, nor on the value. -/
theorem mnemonic_decodeWrite {a b : Word} (v w : Word) (h : regOf defaultConfig a = regOf defaultConfig b) :
    (decodeWrite defaultConfig a v).mnemonic = (decodeWrite defaultConfig b w).mnemonic := by
  unfold decodeWrite
  rw [h]
  split <;> rfl

theorem mnemonic_readRow (a : Word) :
    (((regOf defaultConfig a).map (busRow 1#2 decodeReadDefault)).getD
      (outOfRangeRow 1#2 "RD__out_of_range")).mnemonic = (decodeRead defaultConfig a).mnemonic := by
  cases h : regOf defaultConfig a with
  | none => rw [decodeRead, h]; rfl
  | some r => exact mnemonic_decodeRead ((regOf_wordAddress r).trans h.symm)

theorem mnemonic_writeRow (a v : Word) :
    (((regOf defaultConfig a).map (busRow 2#2 decodeWriteDefault)).getD
      (outOfRangeRow 2#2 "WR__out_of_range")).mnemonic = (decodeWrite defaultConfig a v).mnemonic := by
  cases h : regOf defaultConfig a with
  | none => rw [decodeWrite, h]; rfl
  | some r => exact mnemonic_decodeWrite 0#32 v ((regOf_wordAddress r).trans h.symm)

/-- Settles O7: by the format of the word, the one row selected is that of the operation decoded. -/
theorem everyWordSelectsItsTableRow : Obligations.EveryWordSelectsItsTableRow := by
  intro t
  obtain ⟨hk, h⟩ | ⟨hk, h⟩ | ⟨hk, h⟩ | ⟨hk, h⟩ := decode_cases defaultConfig t <;> rw [h]
  · rw [rowsSelected_of_tick hk]; rfl
  · simp only [rowsSelected_of_read hk, List.map_cons, List.map_nil, mnemonic_readRow]
  · simp only [rowsSelected_of_write hk, List.map_cons, List.map_nil, mnemonic_writeRow _ (dataField t)]
  · rw [rowsSelected_of_life hk]
    obtain ⟨hs, h'⟩ | ⟨hs, h'⟩ | ⟨hs, h'⟩ | ⟨hs, h'⟩ := decodeLife_cases t <;> rw [h', hs] <;> rfl

end Sys2Proof
end

section
/-! SUPPORT. The GeometryEngine and the FrameDecoder on numbers (R160 to R192): the fields, the signed extents, their
ranges, and the outcome table. -/

namespace Sys2Proof.Machine

/-! ### The fields as division and remainder (R161, R162, R181) -/

/-- A word's low bits, by a mask of `k` ones. -/
theorem toNat_and_lowMask (x : Word) {m : Word} {k : Nat} (hm : m.toNat = 2 ^ k - 1) :
    (x &&& m).toNat = x.toNat % 2 ^ k := by
  rw [BitVec.toNat_and, hm, Nat.and_two_pow_sub_one_eq_mod]

theorem startField_toNat (reg : Word) : (startField reg).toNat = reg.toNat / 2 ^ 16 % 2 ^ 10 := by
  rw [startField, toNat_and_lowMask (k := 10) _ rfl, BitVec.toNat_ushiftRight, Nat.shiftRight_eq_div_pow]

theorem endField_toNat (reg : Word) : (endField reg).toNat = reg.toNat % 2 ^ 10 :=
  toNat_and_lowMask (k := 10) reg rfl

theorem scaleField_toNat (reg : Word) : (scaleField reg).toNat = reg.toNat % 2 ^ 12 :=
  toNat_and_lowMask (k := 12) reg rfl

theorem originOffset_toNat (reg : Word) : (originOffset reg).toNat = reg.toNat % 2 ^ 24 :=
  toNat_and_lowMask (k := 24) reg rfl

theorem startField_le (reg : Word) : (startField reg).toNat ≤ 1023 := by
  rw [startField_toNat]
  omega

theorem endField_le (reg : Word) : (endField reg).toNat ≤ 1023 := by
  rw [endField_toNat]
  omega

theorem scaleField_le (reg : Word) : (scaleField reg).toNat ≤ 4095 := by
  rw [scaleField_toNat]
  omega

/-- The halving of the Y fields rounds down (R163, D13). -/
theorem toNat_half (x : Word) : (x >>> 1).toNat = x.toNat / 2 := by
  rw [BitVec.toNat_ushiftRight, Nat.shiftRight_eq_div_pow, pow_one]

/-- A halved field is at most 511. -/
theorem half_le {x : Word} (h : x.toNat ≤ 1023) : (x >>> 1).toNat ≤ 511 := by
  rw [toNat_half]
  omega

/-- A word this small is the same number with and without sign. -/
theorem toInt_of_le {x : Word} (h : x.toNat ≤ 1023) : x.toInt = x.toNat :=
  BitVec.toInt_eq_toNat_of_lt (by omega)

/-- Settles O9: the example is an evaluation of the two fields. -/
theorem startAndEndAreTenBitFields : Obligations.StartAndEndAreTenBitFields :=
  ⟨fun h _ _ _ _ => ⟨startField_toNat h, endField_toNat h⟩,
    fun reg => ⟨startField_toNat reg, startField_le reg, endField_toNat reg, endField_le reg⟩,
    fun _ _ _ _ _ => ⟨rfl, rfl⟩, by decide, by decide⟩

/-! ### The extents (R164 to R166) -/

/-- The product of a 12-bit scale and a difference of fields of at most `m`, divided once: no lower than the largest
scale times the largest negative difference. -/
theorem le_scaledExtent {scale start stop : Word} {m : Nat} (hscale : scale.toNat ≤ 4095) (hstart : start.toNat ≤ m) :
    ((4095 : Int) * -(m : Int)).tdiv 1024 ≤ scaledExtent scale start stop := by
  refine Int.tdiv_le_tdiv (by decide) ?_
  calc (4095 : Int) * -(m : Int)
      ≤ (scale.toNat : Int) * -(m : Int) := mul_le_mul_of_nonpos_right (by omega) (by omega)
    _ ≤ (scale.toNat : Int) * ((stop.toNat : Int) - (start.toNat : Int)) :=
        mul_le_mul_of_nonneg_left (by omega) (by omega)

/-- The saturated extent is held in 32 bits without loss: it is at most the ceiling, and far above the least signed
number. -/
theorem toInt_ofInt_clampTo {ceiling raw : Int} (hceiling : ceiling ≤ 640) (hceiling' : 0 ≤ ceiling)
    (hraw : -4091 ≤ raw) :
    (BitVec.ofInt 32 (clampTo ceiling raw)).toInt = min raw ceiling := by
  rw [BitVec.toInt_ofInt, clampTo]
  exact Int.bmod_eq_of_le (by omega) (by omega)

section Area
variable (h v xs ys w : Word)

theorem le_rawWidth : -4091 ≤ scaledExtent (scaleField xs) (startField h) (endField h) :=
  le_scaledExtent (scaleField_le xs) (startField_le h)

theorem le_rawHeight : -2043 ≤ scaledExtent (scaleField ys) (startField v >>> 1) (endField v >>> 1) :=
  le_scaledExtent (scaleField_le ys) (half_le (startField_le v))

theorem deriveRenderArea_width_toInt : (deriveRenderArea .A h v xs ys w).width.toInt =
    min (scaledExtent (scaleField xs) (startField h) (endField h)) 640 :=
  toInt_ofInt_clampTo (by decide) (by decide) (le_rawWidth h xs)

theorem deriveRenderArea_height_toInt : (deriveRenderArea .A h v xs ys w).height.toInt =
    min (scaledExtent (scaleField ys) (startField v >>> 1) (endField v >>> 1)) 480 :=
  toInt_ofInt_clampTo (by decide) (by decide) ((by decide : (-4091 : Int) ≤ -2043).trans (le_rawHeight v ys))

/-- The skip is the whole stride register less the width, modulo 2^32 (R167). -/
theorem deriveRenderArea_hskip :
    (deriveRenderArea .A h v xs ys w).hskip = w - (deriveRenderArea .A h v xs ys w).width := rfl

/-- The wrap of the skip makes no difference to whether the stride is read as signed (R167, D15). -/
theorem deriveRenderArea_hskip_toInt : (deriveRenderArea .A h v xs ys w).hskip.toInt =
    ((w.toNat : Int) - (deriveRenderArea .A h v xs ys w).width.toInt).bmod (2 ^ 32) := by
  rw [deriveRenderArea_hskip, BitVec.toInt_sub, BitVec.toInt_eq_toNat_bmod w, Int.bmod_sub_bmod]

end Area

/-- The raw extents in terms of the register values (R160). -/
theorem scaledExtent_fields (h xs : Word) : scaledExtent (scaleField xs) (startField h) (endField h) =
    (((xs.toNat % 2 ^ 12 : Nat) : Int) * ((h.toNat : Int) % 2 ^ 10 - (h.toNat : Int) / 2 ^ 16 % 2 ^ 10)).tdiv 1024 := by
  rw [scaledExtent, scaleField_toNat, startField_toNat, endField_toNat]
  norm_cast

theorem scaledExtent_halved_fields (v ys : Word) :
    scaledExtent (scaleField ys) (startField v >>> 1) (endField v >>> 1) =
      (((ys.toNat % 2 ^ 12 : Nat) : Int) *
        ((v.toNat : Int) % 2 ^ 10 / 2 - (v.toNat : Int) / 2 ^ 16 % 2 ^ 10 / 2)).tdiv 1024 := by
  rw [scaledExtent, scaleField_toNat, toNat_half, toNat_half, startField_toNat, endField_toNat]
  norm_cast

/-- Settles O10: the fields are small enough to be their own signed values, the extents are exact, and only the skip
wraps. -/
theorem renderAreaFollowsTheFormula : Obligations.RenderAreaFollowsTheFormula := by
  intro h v xs ys w
  have hwidth := deriveRenderArea_width_toInt h v xs ys w
  have hheight := deriveRenderArea_height_toInt h v xs ys w
  have hskip := deriveRenderArea_hskip_toInt h v xs ys w
  rw [scaledExtent_fields] at hwidth
  rw [scaledExtent_halved_fields] at hheight
  rw [hwidth] at hskip
  refine ⟨?xStart, ?xEnd, ?yStart, ?yEnd, hwidth, hheight, hskip⟩
  case xStart => exact (toInt_of_le (startField_le h)).trans (by rw [startField_toNat]; norm_cast)
  case xEnd => exact (toInt_of_le (endField_le h)).trans (by rw [endField_toNat]; norm_cast)
  case yStart =>
    have hle := (half_le (startField_le v)).trans (by decide : 511 ≤ 1023)
    exact (toInt_of_le hle).trans (by rw [toNat_half, startField_toNat]; norm_cast)
  case yEnd =>
    have hle := (half_le (endField_le v)).trans (by decide : 511 ≤ 1023)
    exact (toInt_of_le hle).trans (by rw [toNat_half, endField_toNat]; norm_cast)

/-- A word of at most `m`, where `m` is small, is a signed number from 0 to `m`. -/
theorem toInt_mem_range {x : Word} {m : Nat} (h : x.toNat ≤ m) (hm : m ≤ 1023) : 0 ≤ x.toInt ∧ x.toInt ≤ m := by
  rw [toInt_of_le (h.trans hm)]
  omega

/-- Settles O11: each extent is the smaller of its ceiling and a raw value whose lower bound `le_scaledExtent` gives. -/
theorem renderAreaStaysInItsRanges : Obligations.RenderAreaStaysInItsRanges := by
  intro h v xs ys w
  have hwidth := deriveRenderArea_width_toInt h v xs ys w
  have hheight := deriveRenderArea_height_toInt h v xs ys w
  have hrawW := le_rawWidth h xs
  have hrawH := le_rawHeight v ys
  refine ⟨?xStart, ?xEnd, ?yStart, ?yEnd, ?width, ?height, fun hlt => ?clampW, fun hlt => ?clampH⟩
  case xStart => exact toInt_mem_range (startField_le h) (by decide)
  case xEnd => exact toInt_mem_range (endField_le h) (by decide)
  case yStart => exact toInt_mem_range (half_le (startField_le v)) (by decide)
  case yEnd => exact toInt_mem_range (half_le (endField_le v)) (by decide)
  case width => omega
  case height => omega
  case clampW => exact hwidth.trans (min_eq_right hlt.le)
  case clampH => exact hheight.trans (min_eq_right hlt.le)

/-! ### What the RenderArea depends on (R169) -/

theorem startField_congr {h h' : Word} (he : h.extractLsb' 16 10 = h'.extractLsb' 16 10) :
    startField h = startField h' := by
  have hbits : h.toNat / 2 ^ 16 % 2 ^ 10 = h'.toNat / 2 ^ 16 % 2 ^ 10 := by
    simpa only [BitVec.extractLsb'_toNat, Nat.shiftRight_eq_div_pow] using congrArg BitVec.toNat he
  exact BitVec.eq_of_toNat_eq (by rw [startField_toNat, startField_toNat, hbits])

theorem endField_congr {h h' : Word} (he : h.extractLsb' 0 10 = h'.extractLsb' 0 10) :
    endField h = endField h' := by
  have hbits : h.toNat % 2 ^ 10 = h'.toNat % 2 ^ 10 := by
    simpa only [BitVec.extractLsb'_toNat, Nat.shiftRight_zero] using congrArg BitVec.toNat he
  exact BitVec.eq_of_toNat_eq (by rw [endField_toNat, endField_toNat, hbits])

theorem scaleField_congr {xs xs' : Word} (he : xs.extractLsb' 0 12 = xs'.extractLsb' 0 12) :
    scaleField xs = scaleField xs' := by
  have hbits : xs.toNat % 2 ^ 12 = xs'.toNat % 2 ^ 12 := by
    simpa only [BitVec.extractLsb'_toNat, Nat.shiftRight_zero] using congrArg BitVec.toNat he
  exact BitVec.eq_of_toNat_eq (by rw [scaleField_toNat, scaleField_toNat, hbits])

/-- Settles O12: the registers but the stride enter by their fields, and the stride by one subtraction. -/
theorem renderAreaDependsOnItsFieldsOnly : Obligations.RenderAreaDependsOnItsFieldsOnly := by
  intro h h' v v' xs xs' ys ys' w w' hh0 hh1 hv0 hv1 hx hy
  have hfields (u : Word) : deriveRenderArea .A h' v' xs' ys' u = deriveRenderArea .A h v xs ys u := by
    simp only [deriveRenderArea, deriveRenderAreaA, startField_congr hh0, endField_congr hh1, startField_congr hv0,
      endField_congr hv1, scaleField_congr hx, scaleField_congr hy]
  rw [hfields]
  refine ⟨rfl, ?stride⟩
  have hwidth : (deriveRenderArea .A h v xs ys w').width = (deriveRenderArea .A h v xs ys w).width := rfl
  rw [deriveRenderArea_hskip, deriveRenderArea_hskip, hwidth, sub_left_inj]
  exact eq_comm

end Sys2Proof.Machine
end

section
/-! SUPPORT. The FrameDecoder by its outcome (R180 to R192): each outcome as a condition on numbers, and the descriptor
of a register array. -/

namespace Sys2Proof.Machine

/-! ### The tests (R181, R186, R187) -/

theorem formatField_eq_iff (statusReg k : Word) : formatField statusReg = k ↔ statusReg.toNat % 4 = k.toNat := by
  rw [← BitVec.toNat_inj, formatField_toNat]

theorem declines_iff (ra : RenderArea) (originReg : Word) : declines ra originReg = true ↔
    originReg.toNat % 2 ^ 24 = 0 ∨ ra.width.toInt ≤ 0 ∨ ra.height.toInt ≤ 0 := by
  rw [declines, Bool.or_eq_true, Bool.or_eq_true, beq_iff_eq, decide_eq_true_iff, decide_eq_true_iff,
    ← BitVec.toNat_inj, originOffset_toNat, or_assoc]
  rfl

/-! ### The outcomes (R192) -/

section Outcomes
variable {ra : RenderArea} {originReg statusReg : Word} (memBase : Nat)

/-- The reserved selector is tested before the offset and the geometry (D18). -/
theorem decodeFrame_of_reserved (h : statusReg.toNat % 4 = 1) :
    decodeFrame ra originReg statusReg memBase = .reservedFormat := by
  simp [decodeFrame, formatField_eq_iff, h]

/-- With a pixel format selected, the selector tests before the declines do not apply. -/
theorem decodeFrame_of_two_le (h : 2 ≤ statusReg.toNat % 4) : decodeFrame ra originReg statusReg memBase =
    if declines ra originReg then .decline
    else if statusReg.toNat % 4 = 2 then .descriptor (frameOf ra originReg memBase .rgba5551 2)
    else .descriptor (frameOf ra originReg memBase .rgba8888 4) := by
  have h0 : statusReg.toNat % 4 ≠ 0 := by omega
  have h1 : statusReg.toNat % 4 ≠ 1 := by omega
  simp [decodeFrame, formatField_eq_iff, h0, h1]

theorem decodeFrame_of_declines (h : 2 ≤ statusReg.toNat % 4) (hd : declines ra originReg = true) :
    decodeFrame ra originReg statusReg memBase = .decline := by
  rw [decodeFrame_of_two_le memBase h, if_pos hd]

theorem decodeFrame_of_rgba5551 (h : statusReg.toNat % 4 = 2) (hd : ¬ declines ra originReg = true) :
    decodeFrame ra originReg statusReg memBase = .descriptor (frameOf ra originReg memBase .rgba5551 2) := by
  rw [decodeFrame_of_two_le memBase (by omega), if_neg hd, if_pos h]

theorem decodeFrame_of_rgba8888 (h : statusReg.toNat % 4 = 3) (hd : ¬ declines ra originReg = true) :
    decodeFrame ra originReg statusReg memBase = .descriptor (frameOf ra originReg memBase .rgba8888 4) := by
  rw [decodeFrame_of_two_le memBase (by omega), if_neg hd, if_neg (by omega)]

end Outcomes

/-- A descriptor comes of a frame that does not decline, in one of the two formats. -/
theorem decodeFrame_descriptor {ra : RenderArea} {originReg statusReg : Word} {memBase : Nat} {f : FrameDescriptor}
    (h : decodeFrame ra originReg statusReg memBase = .descriptor f) :
    ¬ declines ra originReg = true ∧
      (f = frameOf ra originReg memBase .rgba5551 2 ∨ f = frameOf ra originReg memBase .rgba8888 4) := by
  unfold decodeFrame at h
  split at h
  · cases h
  split at h
  · cases h
  split at h
  · cases h
  next hd =>
    split at h <;> cases h
    · exact ⟨hd, .inl rfl⟩
    · exact ⟨hd, .inr rfl⟩

/-- Settles O13: the outcomes one by one, and the fields of `frameOf`. -/
theorem decodeFrameFollowsTheOutcomeTable : Obligations.DecodeFrameFollowsTheOutcomeTable := by
  intro ra origin status base
  have hpointer : base + (originOffset origin).toNat = base + origin.toNat % 2 ^ 24 := by rw [originOffset_toNat]
  have hwidth : (ra.width + ra.hskip).toInt = (ra.width.toInt + ra.hskip.toInt).bmod (2 ^ 32) := BitVec.toInt_add ..
  refine ⟨?blank, ?reserved, ?empty, ?rgba5551, ?rgba8888⟩
  case blank => exact fun h => decodeFrame_of_blank h ra origin base
  case reserved => exact fun h => decodeFrame_of_reserved base h
  case empty => exact fun h hempty => decodeFrame_of_declines base h ((declines_iff ra origin).2 hempty)
  case rgba5551 =>
    exact fun h hfull => ⟨_, decodeFrame_of_rgba5551 base h fun hd => hfull ((declines_iff ra origin).1 hd),
      rfl, rfl, rfl, hpointer, hwidth⟩
  case rgba8888 =>
    exact fun h hfull => ⟨_, decodeFrame_of_rgba8888 base h fun hd => hfull ((declines_iff ra origin).1 hd),
      rfl, rfl, rfl, hpointer, hwidth⟩

/-! ### The descriptor of a register array (R188, R189) -/

/-- The width of a RenderArea and its skip add up to the stride register, wrap and all (R167). -/
theorem Regs.renderArea_width_add_hskip (x : Regs) (k : Variant) :
    (x.renderArea k).width + (x.renderArea k).hskip = x.viWidth := by
  cases k
  exact add_sub_cancel _ _

theorem Regs.renderArea_height_le (x : Regs) (k : Variant) : (x.renderArea k).height.toInt ≤ 480 := by
  cases k
  exact (deriveRenderArea_height_toInt ..).trans_le (min_le_right _ _)

/-- The frame of a register array that does not decline, whatever its format. -/
theorem frameOf_renderArea {x : Regs} {k : Variant} {base bpp : Nat} {format : PixelFormat} {f : FrameDescriptor}
    (hfull : ¬ declines (x.renderArea k) x.viOrigin = true)
    (hf : f = frameOf (x.renderArea k) x.viOrigin base format bpp) :
    f.sourceWidthIncludingSkip = x.viWidth ∧ 1 ≤ f.height.toInt ∧ f.height.toInt ≤ 480 ∧
      base + 1 ≤ f.dataPointer ∧ f.dataPointer ≤ base + 0xFFFFFF := by
  subst hf
  rw [declines_iff] at hfull
  have hpointer := originOffset_toNat x.viOrigin
  refine ⟨x.renderArea_width_add_hskip k, ?_, x.renderArea_height_le k, ?_⟩ <;> simp only [frameOf] <;> omega

/-- Settles O14: the descriptor is a frame that did not decline, on a RenderArea of registers. -/
theorem descriptorOfARegisterArray : Obligations.DescriptorOfARegisterArray := by
  intro k x base f h
  obtain ⟨hfull, hf⟩ := decodeFrame_descriptor h
  obtain ⟨hwidth, hlow, hhigh, hbase, hend⟩ := hf.elim (frameOf_renderArea hfull) (frameOf_renderArea hfull)
  refine ⟨hwidth, hlow, hhigh, hbase, hend, ?format⟩
  obtain rfl | rfl := hf
  · exact .inl ⟨rfl, rfl⟩
  · exact .inr ⟨rfl, rfl⟩

end Sys2Proof.Machine
end

section
/-! SUPPORT. `STEP` on and off expiry (R140 to R146), and where a run of `STEP`s leaves the counter and the interrupt
(R147). -/

namespace Sys2Proof.Machine

/-! ### Off expiry, and before `CONNECT` -/

theorem exec_step_off_expiry {s : State} {d : Device} (hd : Running s d) (hz : d.cyclesRemaining ≠ 0#32) :
    exec .step s = .next (s.setDevice { d with cyclesRemaining := d.cyclesRemaining - 1#32 }) := by
  change tick s = _
  rw [tick, onDevice_running hd, if_neg hz]

/-- An expiry has a Bus to signal to only after `CONNECT` (R203, D24). -/
theorem exec_step_unbound {s : State} {d : Device} (hd : Running s d) (hz : d.cyclesRemaining = 0#32)
    (hb : d.bus = none) : exec .step s = .refused .busNotConnected := by
  change tick s = _
  rw [tick, onDevice_running hd, if_pos hz, hb]

theorem exists_bus_of_busBound {d : Device} (h : d.busBound = true) : ∃ b, d.bus = some b :=
  Option.isSome_iff_exists.1 h

/-- Settles O15: a nonzero counter goes down by one without a wrap. -/
theorem stepOffExpiryOnlyDecrements : Obligations.StepOffExpiryOnlyDecrements := by
  intro s d hd hz
  have hdec : (d.cyclesRemaining - 1#32).toNat + 1 = d.cyclesRemaining.toNat := by bv_omega
  exact ⟨_, exec_step_off_expiry hd hz, hdec⟩

/-- Settles O22: both need the Bus that `CONNECT` binds. -/
theorem busIsNeededForExpiryAndAcknowledge : Obligations.BusIsNeededForExpiryAndAcknowledge := by
  refine ⟨?step, ?acknowledge⟩
  case step => exact fun s d hd hb hz => exec_step_unbound hd hz (by simpa [Device.busBound] using hb)
  case acknowledge =>
    intro s d a v hd hb
    change writeRegister .viCurrent v s = _
    rw [writeRegister, onDevice_running hd]
    simp [writeEffect, hb]

/-! ### An expiry, by the outcome of the FrameDecoder (R143) -/

section Expiry
variable {s : State} {d : Device} {b : BusRef}

theorem expire_of_reserved (h : d.regs.viStatus.toNat % 4 = 1) : expire s d b = raise .reservedFormat s d := by
  rw [expire, decodeFrame_of_reserved _ h]

theorem expire_of_descriptor {frame : FrameDescriptor}
    (h : decodeFrame d.ra d.regs.viOrigin d.regs.viStatus (s.config.memBase b) = .descriptor frame) :
    expire s d b = finishExpiry (s.emit (.present frame)) d := by
  rw [expire, h]

/-- An expiry that finds a selector other than the reserved one leaves the device running, with the registers and the
Bus it had. -/
theorem expire_running (hrun : d.halted = none) (h : d.regs.viStatus.toNat % 4 ≠ 1) :
    ∃ e, Running (expire s d b) e ∧ e.regs = d.regs ∧ e.bus = d.bus := by
  obtain ⟨hfmt, -⟩ | ⟨-, heq | ⟨frame, -, heq⟩⟩ := expire_cases s d b
  · exact absurd ((formatField_eq_iff _ _).1 hfmt) h
  · rw [heq]
    exact ⟨_, ⟨finishExpiry_device s d, hrun⟩, rfl, rfl⟩
  · rw [heq]
    exact ⟨_, ⟨finishExpiry_device _ d, hrun⟩, rfl, rfl⟩

end Expiry

/-- The end of an expiry after one event: that event, then `RaiseIrq`. -/
theorem finishExpiry_emit (s : State) (d : Device) (e : Event) : finishExpiry (s.emit e) d =
    { s with
      device := some { d with irq := true, cyclesRemaining := s.config.reload - 1#32 }
      history := s.history ++ [e, .raiseIrq s.config.intrLine] } :=
  State.eq_of_fields rfl rfl (by simp) rfl rfl rfl rfl rfl

/-- Settles O17: the FrameDecoder declines, and the expiry ends as every expiry does. -/
theorem emptyFrameExpiryOnlyRaisesTheInterrupt : Obligations.EmptyFrameExpiryOnlyRaisesTheInterrupt := by
  intro s d hd hz hbound hfmt hempty
  obtain ⟨b, hb⟩ := exists_bus_of_busBound hbound
  have hdecline := decodeFrame_of_declines (s.config.memBase b) hfmt ((declines_iff d.ra d.regs.viOrigin).2 hempty)
  rw [exec_step_expiry hd hz hb, expire_of_decline hdecline]
  rfl

/-- The descriptor of a frame that does not decline, in the format of the selector (R188). -/
theorem decodeFrame_of_frame {ra : RenderArea} {originReg statusReg : Word} (memBase : Nat)
    (h : 2 ≤ statusReg.toNat % 4) (hoffset : originReg.toNat % 2 ^ 24 ≠ 0) (hwidth : 0 < ra.width.toInt)
    (hheight : 0 < ra.height.toInt) : decodeFrame ra originReg statusReg memBase =
      .descriptor
        { format := if statusReg.toNat % 4 = 2 then .rgba5551 else .rgba8888
          sourceWidthIncludingSkip := ra.width + ra.hskip
          height := ra.height
          bytesPerPixel := if statusReg.toNat % 4 = 2 then 2 else 4
          dataPointer := memBase + originReg.toNat % 2 ^ 24 } := by
  have hfull : ¬ declines ra originReg = true := by
    rw [declines_iff]
    omega
  obtain h2 | h3 : statusReg.toNat % 4 = 2 ∨ statusReg.toNat % 4 = 3 := by omega
  · rw [decodeFrame_of_rgba5551 memBase h2 hfull, frameOf, originOffset_toNat]
    simp [h2]
  · rw [decodeFrame_of_rgba8888 memBase h3 hfull, frameOf, originOffset_toNat]
    simp [h3]

/-- Settles O18. -/
theorem expiryPresentsThenRaises : Obligations.ExpiryPresentsThenRaises := by
  intro s d b hd hz hb hfmt hoffset hwidth hheight
  have hframe := decodeFrame_of_frame (s.config.memBase b) hfmt hoffset hwidth hheight
  rw [exec_step_expiry hd hz hb]
  exact congrArg Host.Outcome.next ((expire_of_descriptor hframe).trans (finishExpiry_emit s d _))

/-! ### `STEP` on a device that does not fault -/

/-- On a connected device whose selector is not the reserved one, `STEP` completes and leaves such a device. -/
theorem exec_step_running {s : State} {d : Device} (hd : Running s d) (hbound : d.busBound = true)
    (hfmt : d.regs.viStatus.toNat % 4 ≠ 1) :
    ∃ t e, exec .step s = .next t ∧ Running t e ∧ e.regs = d.regs ∧ e.bus = d.bus := by
  obtain ⟨b, hb⟩ := exists_bus_of_busBound hbound
  by_cases hz : d.cyclesRemaining = 0#32
  · obtain ⟨e, he, hregs, hbus⟩ := expire_running (s := s) (b := b) hd.2 hfmt
    exact ⟨_, e, exec_step_expiry hd hz hb, he, hregs, hbus⟩
  · exact ⟨_, _, exec_step_off_expiry hd hz, ⟨rfl, hd.2⟩, rfl, rfl⟩

theorem runOps_cons_of_next {i : Instr} {is : List Instr} {s u : State} (h : exec i s = .next u) :
    runOps (i :: is) s = runOps is u := by
  rw [runOps, h]

/-- Writing a selector stores it and leaves the device running, whatever it is (R116, R183). -/
theorem exec_wrViStatus {s : State} {d : Device} (hd : Running s d) (a v : Word) :
    exec (.wrViStatus a v) s = .next (s.setDevice (d.store .viStatus v)) ∧
      Running (s.setDevice (d.store .viStatus v)) (d.store .viStatus v) :=
  ⟨writeRegister_of_store (r := .viStatus) rfl hd v, rfl, hd.2⟩

/-- Settles O19: the selector is looked at by the expiry only, and only as it stands then. -/
theorem reservedFormatHaltsAtTheExpiryOnly : Obligations.ReservedFormatHaltsAtTheExpiryOnly := by
  refine ⟨?expiry, ?off, ?write, ?passes⟩
  case expiry =>
    intro s d hd hz hbound hfmt
    obtain ⟨b, hb⟩ := exists_bus_of_busBound hbound
    have hexec := exec_step_expiry hd hz hb
    rw [expire_of_reserved hfmt] at hexec
    exact ⟨_, _, hexec, rfl, rfl, rfl⟩
  case off => exact fun s d hd hz _ => ⟨_, _, exec_step_off_expiry hd hz, rfl, hd.2⟩
  case write =>
    intro s d a v hd
    obtain ⟨hexec, hrun⟩ := exec_wrViStatus hd a v
    exact ⟨_, _, hexec, hrun⟩
  case passes =>
    intro s d a b u v hd _ hbound hv
    obtain ⟨hfirst, hrun⟩ := exec_wrViStatus hd a u
    obtain ⟨hsecond, hrun'⟩ := exec_wrViStatus hrun b v
    obtain ⟨t, e, hstep, he, -, -⟩ := exec_step_running hrun' hbound hv
    exact ⟨t, e, by rw [runOps_cons_of_next hfirst, runOps_cons_of_next hsecond, runOps_cons_of_next hstep, runOps], he⟩

/-! ### A run of `STEP`s (R147) -/

/-- Such a device takes any number of `STEP`s. -/
theorem runOps_steps_running (n : Nat) {s : State} {d : Device} (hd : Running s d) (hbound : d.busBound = true)
    (hfmt : d.regs.viStatus.toNat % 4 ≠ 1) : ∃ t e, runOps (List.replicate n .step) s = .next t ∧ Running t e := by
  induction n generalizing s d with
  | zero => exact ⟨s, d, rfl, hd⟩
  | succ n ih =>
    obtain ⟨u, e, hu, he, hregs, hbus⟩ := exec_step_running hd hbound hfmt
    have hbound' : e.busBound = true := by rw [Device.busBound, hbus]; exact hbound
    obtain ⟨t, e', ht, he'⟩ := ih he hbound' (hregs ▸ hfmt)
    exact ⟨t, e', by rw [List.replicate_succ, runOps_cons_of_next hu, ht], he'⟩

/-- The clock's account solved for the counter, from a full one: `n` counts are whole periods and a rest. -/
theorem ClockAdvances.counter_eq {n : Nat} {s t : State} {d d' : Device} (h : ClockAdvances n s d t d')
    (hfull : d.cyclesRemaining = s.config.reload) (hn : 1 ≤ n)
    (hraises : raises t.history = raises s.history + (n - 1) / s.config.reload.toNat) :
    d'.cyclesRemaining.toNat = s.config.reload.toNat - 1 - (n - 1) % s.config.reload.toNat := by
  have hbalance := h.balance
  rw [hraises, hfull, Nat.mul_add] at hbalance
  have hperiods := Nat.div_add_mod (n - 1) s.config.reload.toNat
  omega

/-- Settles O20: the run is `n` counts of the clock from a full counter. -/
theorem counterAndInterruptsAfterSteps : Obligations.CounterAndInterruptsAfterSteps := by
  intro s d n hR hd hbound hfull hfmt hn
  obtain ⟨t, d', hrun, hd'⟩ := runOps_steps_running n hd hbound hfmt
  have hle : d.cyclesRemaining ≤ s.config.reload := hfull ▸ BitVec.le_refl _
  have hops : ∀ o ∈ List.replicate n Instr.step, o ≠ .create := by
    intro o ho
    rw [List.eq_of_mem_replicate ho]
    nofun
  have hclock := runOps_clockAdvances hR hops hrun hd hd' hle
  rw [List.count_replicate_self] at hclock
  have hraises := hclock.raises_eq hR hle
  rw [hfull, show n + s.config.reload.toNat - 1 - s.config.reload.toNat = n - 1 by omega] at hraises
  exact ⟨t, d', hrun, hd', hclock.counter_eq hfull hn hraises, hraises⟩

end Sys2Proof.Machine
end

section
/-! SUPPORT. The synthesized `VI_CURRENT` (R106, R213), reads that complete (R58), the plain and the geometry writes,
and accesses out of range (R130, R131). -/

namespace Sys2Proof.Machine

/-! ### The scanline (R106) -/

/-- The synthesis has no value exactly where the divisor `RELOAD / VI_V_SYNC` is zero though `VI_V_SYNC` is not
(R213, D11). -/
theorem scanline_eq_none_iff (reload vsync cycles : Word) : scanline reload vsync cycles = none ↔ reload < vsync := by
  have hdiv : reload / vsync = 0#32 ↔ vsync = 0#32 ∨ reload < vsync := by
    rw [← BitVec.toNat_inj, BitVec.toNat_udiv, BitVec.toNat_zero, Nat.div_eq_zero_iff, BitVec.lt_def,
      ← BitVec.toNat_inj, BitVec.toNat_zero]
  have hpos : reload < vsync → vsync ≠ 0#32 := by
    rintro h rfl
    exact BitVec.not_lt_zero h
  unfold scanline
  split
  · next h => simp [h, BitVec.not_lt_zero]
  split
  · next h0 hd => exact iff_of_true rfl ((hdiv.1 hd).resolve_left h0)
  · next h0 hd => exact iff_of_false nofun fun h => hd (hdiv.2 (.inr h))

theorem scanline_of_zero (reload cycles : Word) : scanline reload 0#32 cycles = some 0#32 := rfl

/-- Where there is a divisor, the value is the quotient with its lowest bit cleared (D10). -/
theorem scanline_of_le {reload vsync : Word} (cycles : Word) (h0 : vsync ≠ 0#32) (hle : vsync ≤ reload) :
    scanline reload vsync cycles = some ((reload - cycles) / (reload / vsync) &&& 0xFFFFFFFE#32) := by
  have hsome : ¬ reload / vsync = 0#32 := by
    intro hdiv
    have hnone : scanline reload vsync cycles = none := by rw [scanline, if_neg h0, if_pos hdiv]
    exact BitVec.not_lt.2 hle ((scanline_eq_none_iff reload vsync cycles).1 hnone)
  rw [scanline, if_neg h0, if_neg hsome]

/-- A word with its lowest bit cleared is the even number at or below it. -/
theorem toNat_evenPart (x : Word) : (x &&& 0xFFFFFFFE#32).toNat = x.toNat / 2 * 2 :=
  toNat_and_highMask x 1

/-- The elapsed cycles do not wrap while the counter is within `RELOAD`. -/
theorem toNat_scanline_value {reload vsync cycles : Word} (hle : cycles ≤ reload) :
    ((reload - cycles) / (reload / vsync) &&& 0xFFFFFFFE#32).toNat =
      (reload.toNat - cycles.toNat) / (reload.toNat / vsync.toNat) / 2 * 2 := by
  rw [toNat_evenPart, BitVec.toNat_udiv, BitVec.toNat_udiv, BitVec.toNat_sub_of_le hle]

/-! ### READ (R58, R100) -/

/-- A `READ` without a value faults (R213). -/
theorem readRegister_of_none {r : RegName} {s : State} {d : Device} (hd : Running s d)
    (h : readValue s.config r d = none) : readRegister r s = .next (raise .scanlineDivideByZero s d) := by
  rw [readRegister, onDevice_running hd, h]

/-- Settles O25: the three clauses are the three cases of the synthesis. -/
theorem currentReadSynthesizesTheScanline : Obligations.CurrentReadSynthesizesTheScanline := by
  refine ⟨?zero, ?value, ?fault⟩
  case zero =>
    intro s d a hd h0
    have hvalue : readValue s.config .viCurrent d = some 0#32 :=
      (congrArg (scanline _ · _) h0).trans (scanline_of_zero _ _)
    exact (readRegister_eq_reply_iff hd .viCurrent 0#32).2 hvalue
  case value =>
    intro s d a hd h0 hle
    refine ⟨_, (readRegister_eq_reply_iff hd .viCurrent _).2 (scanline_of_le _ h0 hle), ?_, toNat_scanline_value⟩
    rw [toNat_evenPart, Nat.mul_mod_left]
  case fault => exact fun s d a hd h => readRegister_of_none hd ((scanline_eq_none_iff ..).2 h)

/-- Settles O26: a read that does not fault returns the device's value, and returns it again. -/
theorem readsChangeNoDeviceState : Obligations.ReadsChangeNoDeviceState := by
  intro i s t d hd hi h hok
  obtain ⟨r, hr⟩ := Option.isSome_iff_exists.1 hi
  rw [exec_of_readReg hr] at h
  obtain ⟨e, he, ⟨v, hv, rfl⟩ | ⟨-, rfl⟩⟩ := readRegister_next h
  · refine ⟨v, rfl, ?_⟩
    rw [exec_of_readReg hr]
    exact (readRegister_eq_reply_iff (s := s.reply (.value v)) he r v).2 hv
  · exact absurd ⟨_, _, raise_device s e _, rfl⟩ hok

/-! ### WRITE (R101) -/

section Write
variable {op : Word → Word → Instr} {r : RegName} (hop : ∀ a v s, exec (op a v) s = writeRegister r v s)
include hop

/-- A `WRITE` that only stores completes on a running device, with no other effect (R116, R117, R122). -/
theorem exec_storesOnly (he : writeEffect r = .store) :
    ∀ s d a v, Running s d → ∃ t, exec (op a v) s = .next t ∧ StoresOnly r v s t d :=
  fun s d a v hd => ⟨_, (hop a v s).trans (writeRegister_of_store he hd v), storesOnly_setDevice_store r v s d⟩

/-- A `WRITE` that derives stores and recomputes the RenderArea (R170). -/
theorem exec_storesAndDerives (he : writeEffect r = .storeAndDerive) :
    ∀ s d a v, Running s d → ∃ t, exec (op a v) s = .next t ∧ StoresAndDerives r v s t d := by
  intro s d a v hd
  refine ⟨s.setDevice ((d.store r v).derive s.config.variant), ?_, _, rfl, rfl, Regs.read_write_same d.regs r v,
    fun _ hq => Regs.read_write_other d.regs v hq, Regs.renderArea_eq_read ..⟩
  rw [hop, writeRegister, onDevice_running hd, he]

end Write

/-- Settles O27: the three are among the registers whose `WRITE` only stores. -/
theorem usedPlainWritesStoreOnly : Obligations.UsedPlainWritesStoreOnly := by
  refine ⟨?status, ?origin, ?vSync⟩
  all_goals exact exec_storesOnly (fun _ _ _ => rfl) rfl

/-- Settles O29: the five are the registers whose `WRITE` derives. -/
theorem geometryWritesStoreAndDerive : Obligations.GeometryWritesStoreAndDerive := by
  refine ⟨?width, ?hStart, ?vStart, ?xScale, ?yScale⟩
  all_goals exact exec_storesAndDerives (fun _ _ _ => rfl) rfl

/-- Settles O33: a read and a write out of range are one operation. -/
theorem outOfRangeAccessHaltsTheDevice : Obligations.OutOfRangeAccessHaltsTheDevice := by
  intro s d a v hd
  have haccess : accessOutOfRange a s = .next (raise (.outOfRange a) s d) := by
    rw [accessOutOfRange, onDevice_running hd]
  exact ⟨haccess, haccess⟩

end Sys2Proof.Machine
end

section
/-! SUPPORT. The guards every operation passes (R202, R214), and the lifecycle operations (R200 to R204). -/

namespace Sys2Proof.Machine

/-! ### Where an operation has no step -/

/-- Every operation but `CREATE` and `DESTROY` acts through the guard `onDevice`. -/
theorem exec_eq_onDevice {i : Instr} (hc : i ≠ .create) (hx : i ≠ .destroy) (s : State) :
    ∃ f, exec i s = onDevice s f := by
  obtain ⟨r, -, h⟩ | ⟨r, v, -, -, h⟩ | ⟨a, -, h⟩ | ⟨-, h⟩ | ⟨hi, -⟩ | ⟨-, h⟩ | ⟨hi, -⟩ := exec_cases i s
  · exact ⟨_, h⟩ -- a read
  · exact ⟨_, h⟩ -- a write
  · exact ⟨_, h⟩ -- an access out of range
  · exact ⟨_, h⟩ -- a `STEP`
  · exact absurd hi hc
  · exact ⟨_, h⟩ -- a `CONNECT`
  · exact absurd hi hx

/-- Settles O35. -/
theorem haltedDeviceTakesNoStep : Obligations.HaltedDeviceTakesNoStep := by
  intro i s d c hd hhalt hc hx
  obtain ⟨f, hf⟩ := exec_eq_onDevice hc hx s
  rw [hf, onDevice_halted hd hhalt]

/-- Settles O36: `DESTROY` has a guard of its own. -/
theorem noDeviceNoMeaning : Obligations.NoDeviceNoMeaning := by
  intro i s hd hc
  by_cases hx : i = .destroy
  · subst hx
    change execDestroy s = _
    rw [execDestroy, hd]
  · obtain ⟨f, hf⟩ := exec_eq_onDevice hc hx s
    rw [hf, onDevice_none hd]

/-! ### `CREATE`, `CONNECT` and `DESTROY` -/

/-- A `CREATE` whose setup does not fail (R200). -/
theorem exec_create {s : State} (h : s.presenterFails = false) : exec .create s = .next { s with
    device := some (Device.reset s.config), history := [], replies := [], others := s.parkDevice } := by
  change execCreate s = _
  rw [execCreate, if_neg (by simp [h])]

/-- Settles O37: the two clauses are the two cases of what is set aside. -/
theorem createMakesAFreshDevice : Obligations.CreateMakesAFreshDevice := by
  refine ⟨fun s h hd => ?none, fun s d h hd => ?some⟩
  case none =>
    have hpark : s.parkDevice = s.others := by rw [State.parkDevice, hd]
    rw [exec_create h, hpark]
    rfl
  case some =>
    have hpark : s.parkDevice = ⟨d, s.history, s.replies⟩ :: s.others := by rw [State.parkDevice, hd]
    rw [exec_create h, hpark]
    rfl

/-- Settles O38. -/
theorem createFailureMakesNoDevice : Obligations.CreateFailureMakesNoDevice := by
  intro s h
  change execCreate s = _
  rw [execCreate, if_pos h]
  rfl

/-- Settles O39. -/
theorem connectBindsTheBus : Obligations.ConnectBindsTheBus :=
  fun _ _ hd => ⟨_, onDevice_running hd _, rfl, rfl⟩

/-- Settles O40. -/
theorem destroyEndsTheDevice : Obligations.DestroyEndsTheDevice := by
  intro s d hd
  change execDestroy s = _
  rw [execDestroy, hd]

/-- Settles O41: `DESTROY` leaves no device for the `CREATE` to set aside. -/
theorem destroyThenCreateStartsAfresh : Obligations.DestroyThenCreateStartsAfresh := by
  intro s d hd h
  have hcreate := createMakesAFreshDevice.1 { s with device := none } h rfl
  rw [runOps_cons_of_next (destroyEndsTheDevice s d hd), runOps_cons_of_next hcreate, runOps]

end Sys2Proof.Machine
end

section
/-! SUPPORT. What one operation can add to the output (R45, R140, R220), and which operations move the counter, raise
the interrupt (R37, R141) or halt the device (R210, R214). -/

namespace Sys2Proof.Machine

/-! ### The events of one operation -/

/-- The event sequences of one operation other than `CREATE` (R140, R220). -/
def EventsOfOne (c : Config) (es : List Event) : Prop :=
  es = [] ∨ es = [.clearIrq c.intrLine] ∨ es = [.raiseIrq c.intrLine] ∨
    (∃ f, es = [.present f, .raiseIrq c.intrLine]) ∨ ∃ cause, es = [.fatal cause]

namespace EventsOfOne
variable (c : Config)

theorem nil : EventsOfOne c [] := .inl rfl
theorem clear : EventsOfOne c [.clearIrq c.intrLine] := .inr (.inl rfl)
theorem raiseIrq : EventsOfOne c [.raiseIrq c.intrLine] := .inr (.inr (.inl rfl))
theorem present (f : FrameDescriptor) : EventsOfOne c [.present f, .raiseIrq c.intrLine] :=
  .inr (.inr (.inr (.inl ⟨f, rfl⟩)))
theorem fatal (cause : HaltCause) : EventsOfOne c [.fatal cause] := .inr (.inr (.inr (.inr ⟨cause, rfl⟩)))

end EventsOfOne

/-- The output of an expiry, in the order of R143: the one diagnostic, or at most one frame and then the interrupt. -/
theorem expire_output (s : State) (d : Device) (b : BusRef) :
    (expire s d b).replies = s.replies ∧
      ∃ es, (expire s d b).history = s.history ++ es ∧
        (es = [.fatal .reservedFormat] ∨ es = [.raiseIrq s.config.intrLine] ∨
          ∃ f, es = [.present f, .raiseIrq s.config.intrLine]) := by
  obtain ⟨-, h⟩ | ⟨-, h | ⟨f, -, h⟩⟩ := expire_cases s d b <;> rw [h]
  · exact ⟨rfl, _, rfl, .inl rfl⟩
  · exact ⟨rfl, _, rfl, .inr (.inl rfl)⟩
  · rw [finishExpiry_emit]
    exact ⟨rfl, _, rfl, .inr (.inr ⟨f, rfl⟩)⟩

theorem expire_eventsOfOne (s : State) (d : Device) (b : BusRef) :
    ∃ es, (expire s d b).history = s.history ++ es ∧ EventsOfOne s.config es := by
  obtain ⟨-, es, hes, rfl | rfl | ⟨f, rfl⟩⟩ := expire_output s d b
  · exact ⟨_, hes, .fatal _ _⟩
  · exact ⟨_, hes, .raiseIrq _⟩
  · exact ⟨_, hes, .present _ f⟩

/-- Every operation but `CREATE` appends one of the sequences to the history. -/
theorem exec_history {i : Instr} {s t : State} (h : exec i s = .next t) (hi : i ≠ .create) :
    ∃ es, t.history = s.history ++ es ∧ EventsOfOne s.config es := by
  have silent : ∃ es, s.history = s.history ++ es ∧ EventsOfOne s.config es :=
    ⟨[], (List.append_nil _).symm, .nil _⟩
  obtain ⟨hc, -⟩ | ⟨-, _, -, rfl⟩ | ⟨d, -, -, -, heffect⟩ := exec_next h
  · exact absurd hc hi
  · exact silent -- a `DESTROY`
  obtain ⟨_, _, -, -, rfl⟩ | ⟨-, -, rfl⟩ | ⟨_, _, -, -, -, rfl⟩ | ⟨_, _, -, -, -, rfl⟩ | ⟨-, -, rfl⟩ |
    ⟨_, -, rfl⟩ | ⟨-, -, b, -, rfl⟩ | ⟨-, -, rfl⟩ | ⟨-, rfl⟩ := heffect
  · exact silent -- a read
  · exact ⟨_, rfl, .fatal _ _⟩ -- a read that faults
  · exact silent -- a plain store
  · exact silent -- a store that derives the RenderArea
  · exact ⟨_, rfl, .clear _⟩ -- an acknowledge
  · exact ⟨_, rfl, .fatal _ _⟩ -- an access out of range
  · exact expire_eventsOfOne s d b -- an expiry
  · exact silent -- a `STEP` off expiry
  · exact silent -- a `CONNECT`

/-- Only a read returns a value, and at most one (R72). -/
theorem exec_replies {i : Instr} {s t : State} (h : exec i s = .next t) (hi : i ≠ .create) :
    t.replies = s.replies ∨ ((readReg i).isSome = true ∧ ∃ v, t.replies = s.replies ++ [.value v]) := by
  obtain ⟨hc, -⟩ | ⟨-, _, -, rfl⟩ | ⟨d, -, -, -, heffect⟩ := exec_next h
  · exact absurd hc hi
  · exact .inl rfl -- a `DESTROY`
  obtain ⟨r, v, hr, -, rfl⟩ | ⟨-, -, rfl⟩ | ⟨_, _, -, -, -, rfl⟩ | ⟨_, _, -, -, -, rfl⟩ | ⟨-, -, rfl⟩ |
    ⟨_, -, rfl⟩ | ⟨-, -, b, -, rfl⟩ | ⟨-, -, rfl⟩ | ⟨-, rfl⟩ := heffect
  · exact .inr ⟨by rw [hr]; rfl, v, rfl⟩ -- a read
  · exact .inl rfl -- a read that faults
  · exact .inl rfl -- a plain store
  · exact .inl rfl -- a store that derives the RenderArea
  · exact .inl rfl -- an acknowledge
  · exact .inl rfl -- an access out of range
  · exact .inl (expire_output s d b).1 -- an expiry
  · exact .inl rfl -- a `STEP` off expiry
  · exact .inl rfl -- a `CONNECT`

/-- Settles O46. -/
theorem historyGrowsByOneOperation : Obligations.HistoryGrowsByOneOperation :=
  fun _ _ _ h hi => ⟨exec_history h hi, exec_replies h hi⟩

/-! ### The counter and the interrupt -/

/-- An expiry that adds a `RaiseIrq` adds exactly one (R144). -/
theorem expire_raises (s : State) (d : Device) (b : BusRef) :
    raises (expire s d b).history = raises s.history ∨ raises (expire s d b).history = raises s.history + 1 := by
  obtain ⟨-, es, hes, rfl | rfl | ⟨f, rfl⟩⟩ := expire_output s d b <;> rw [hes, raises_append]
  · exact .inl rfl
  · exact .inr rfl
  · exact .inr rfl

/-- An operation that is no `CREATE` and no expiry keeps the interrupt low where it was, and the number of `RaiseIrq`
events; and if it is no `STEP`, the counter. -/
theorem exec_clock_cases {i : Instr} {s t : State} {d d' : Device} (hd : s.device = some d) (h : exec i s = .next t)
    (hd' : t.device = some d') (hi : i ≠ .create) :
    (i = .step ∧ d.cyclesRemaining = 0#32 ∧ ∃ b, t = expire s d b) ∨
      ((i ≠ .step → d'.cyclesRemaining = d.cyclesRemaining) ∧ (d'.irq = true → d.irq = true) ∧
        raises t.history = raises s.history) := by
  have quiet {e : Device} (he : t.device = some e) (hcount : i ≠ .step → e.cyclesRemaining = d.cyclesRemaining)
      (hirq : e.irq = true → d.irq = true) (hr : raises t.history = raises s.history) :
      (i ≠ .step → d'.cyclesRemaining = d.cyclesRemaining) ∧ (d'.irq = true → d.irq = true) ∧
        raises t.history = raises s.history := by
    obtain rfl : e = d' := Option.some.inj (he.symm.trans hd')
    exact ⟨hcount, hirq, hr⟩
  have silent {e : Event} (he : e.isRaise = false) : raises (s.history ++ [e]) = raises s.history := by
    simp [raises, he]
  obtain ⟨hc, -⟩ | ⟨-, _, -, rfl⟩ | ⟨e, ⟨he, -⟩, -, -, heffect⟩ := exec_next h
  · exact absurd hc hi
  · cases hd'
  obtain rfl : e = d := Option.some.inj (he.symm.trans hd)
  obtain ⟨_, _, -, -, rfl⟩ | ⟨-, -, rfl⟩ | ⟨_, _, -, -, -, rfl⟩ | ⟨_, _, -, -, -, rfl⟩ | ⟨-, -, rfl⟩ |
    ⟨_, -, rfl⟩ | ⟨hstep, hz, b, -, rfl⟩ | ⟨hstep, -, rfl⟩ | ⟨-, rfl⟩ := heffect
  · exact .inr (quiet he (fun _ => rfl) id rfl) -- a read
  · exact .inr (quiet rfl (fun _ => rfl) id (silent rfl)) -- a read that faults
  · exact .inr (quiet rfl (fun _ => rfl) id rfl) -- a plain store
  · exact .inr (quiet rfl (fun _ => rfl) id rfl) -- a store that derives the RenderArea
  · exact .inr (quiet rfl (fun _ => rfl) nofun (silent rfl)) -- an acknowledge
  · exact .inr (quiet rfl (fun _ => rfl) id (silent rfl)) -- an access out of range
  · exact .inl ⟨hstep, hz, b, rfl⟩ -- an expiry
  · exact .inr (quiet rfl (absurd hstep) id rfl) -- a `STEP` off expiry
  · exact .inr (quiet rfl (fun _ => rfl) id rfl) -- a `CONNECT`

/-- Settles O45: what is no expiry is quiet, and an expiry raises at most once. -/
theorem onlyStepMovesTheCounter : Obligations.OnlyStepMovesTheCounter := by
  intro i s t d d' hd h hd' hi
  obtain ⟨rfl, hz, b, rfl⟩ | ⟨hcount, hirq, hr⟩ := exec_clock_cases hd h hd' hi
  · exact ⟨absurd rfl, fun _ _ => ⟨rfl, hz⟩, fun hne => ⟨rfl, hz, (expire_raises s d b).resolve_left hne⟩⟩
  · exact ⟨hcount, fun hlow hhigh => by simp [hirq hhigh] at hlow, fun hne => absurd hr hne⟩

/-! ### Fault entry -/

/-- What halts a device with the cause `c` (R210 to R213). -/
def HaltsWith (i : Instr) (s : State) (d : Device) (c : HaltCause) : Prop :=
  (∃ a, c = .outOfRange a ∧ (i = .rdOutOfRange a ∨ ∃ v, i = .wrOutOfRange a v)) ∨
    (c = .reservedFormat ∧ i = .step ∧ d.cyclesRemaining = 0#32 ∧ (d.regs.read .viStatus).toNat % 4 = 1) ∨
    (c = .scanlineDivideByZero ∧ readReg i = some .viCurrent ∧ s.config.reload < d.regs.read .viVSync)

/-- An expiry leaves the device running, or takes the fault of the reserved selector. -/
theorem expire_running_or_raise {s : State} {d : Device} (hrun : d.halted = none) (b : BusRef) :
    (∃ e, Running (expire s d b) e) ∨
      ((d.regs.read .viStatus).toNat % 4 = 1 ∧ expire s d b = raise .reservedFormat s d) := by
  by_cases hfmt : d.regs.viStatus.toNat % 4 = 1
  · exact .inr ⟨hfmt, expire_of_reserved hfmt⟩
  · obtain ⟨e, he, -, -⟩ := expire_running (s := s) (b := b) hrun hfmt
    exact .inl ⟨e, he⟩

/-- `CREATE` beside a running device leaves a running device: the same one if the setup failed, a reset one if not. -/
theorem execCreate_running {s t : State} {d : Device} (hd : Running s d) (h : execCreate s = .next t) :
    ∃ e, Running t e := by
  obtain ⟨-, rfl⟩ | ⟨-, rfl⟩ := execCreate_next h
  · exact ⟨d, hd⟩
  · exact ⟨_, rfl, rfl⟩

/-- An operation on a running device leaves a running device or none, or takes one of the faults. -/
theorem exec_running_or_raise {i : Instr} {s t : State} {d : Device} (hd : Running s d) (h : exec i s = .next t) :
    (∃ e, Running t e) ∨ t.device = none ∨ ∃ c, t = raise c s d ∧ HaltsWith i s d c := by
  obtain ⟨-, hcreate⟩ | ⟨-, _, -, rfl⟩ | ⟨e, ⟨he, -⟩, -, -, heffect⟩ := exec_next h
  · exact .inl (execCreate_running hd hcreate)
  · exact .inr (.inl rfl)
  obtain rfl : e = d := Option.some.inj (he.symm.trans hd.1)
  have hrun : e.halted = none := hd.2
  obtain ⟨_, _, -, -, rfl⟩ | ⟨hr, hnone, rfl⟩ | ⟨_, _, -, -, -, rfl⟩ | ⟨_, _, -, -, -, rfl⟩ | ⟨-, -, rfl⟩ |
    ⟨a, hi, rfl⟩ | ⟨hi, hz, b, -, rfl⟩ | ⟨-, -, rfl⟩ | ⟨-, rfl⟩ := heffect
  · exact .inl ⟨e, hd⟩ -- a read
  · exact .inr (.inr ⟨_, rfl, .inr (.inr ⟨rfl, hr, (scanline_eq_none_iff ..).1 hnone⟩)⟩) -- a read that faults
  · exact .inl ⟨_, rfl, hrun⟩ -- a plain store
  · exact .inl ⟨_, rfl, hrun⟩ -- a store that derives the RenderArea
  · exact .inl ⟨_, rfl, hrun⟩ -- an acknowledge
  · exact .inr (.inr ⟨_, rfl, .inl ⟨a, rfl, hi⟩⟩) -- an access out of range
  · obtain hok | ⟨hfmt, hraise⟩ := expire_running_or_raise hrun b
    · exact .inl hok
    · exact .inr (.inr ⟨_, hraise, .inr (.inl ⟨rfl, hi, hz, hfmt⟩)⟩) -- an expiry
  · exact .inl ⟨_, rfl, hrun⟩ -- a `STEP` off expiry
  · exact .inl ⟨_, rfl, hrun⟩ -- a `CONNECT`

/-- Settles O34: a device found halted after an operation on a running one was halted by `raise`, whose effect is the
cause and its diagnostic. -/
theorem faultEntryIsPrecise : Obligations.FaultEntryIsPrecise := by
  intro i s t d d' c hd h hd' hc
  obtain ⟨e, he, hrun⟩ | hnone | ⟨cause, rfl, hcause⟩ := exec_running_or_raise hd h
  · cases he.symm.trans hd'
    cases hrun.symm.trans hc
  · cases hnone.symm.trans hd'
  · cases hd'
    cases hc
    exact ⟨rfl, hcause⟩

end Sys2Proof.Machine
end
